-- ==== Sys2Proof/Word.lean ====
section
/-! DEFINITION. The machine's words: the 32-bit bus word, the byte (a GF(256) element, a codeword, a memory
entry), and the 21-bit bus address (spec 00_scope.md R8, R10; 20_memory.md R80, R81). -/

namespace Sys2Proof

/-- A word of the host bus, a register or a command (00_scope.md R8: "word width of the host bus", 32 bits). -/
abbrev Word := BitVec 32

/-- A GF(256) element, a codeword, or an entry of an internal memory (00_scope.md R8, R12). -/
abbrev Byte := BitVec 8

/-- A byte address as the core sees it, `a[20:0]` (20_memory.md R81). -/
abbrev BusAddr := BitVec 21

/-- `zext_32` of a byte (00_scope.md R10). -/
abbrev zext32 (b : Byte) : Word := b.setWidth 32

/-- A number as a 32-bit register value. -/
abbrev wordOf (n : Nat) : Word := BitVec.ofNat 32 n

end Sys2Proof
end

