-- ==== Sys2Proof/Syntax.lean ====
section
/-! DEFINITION. The 16 commands of the opcode map (30_encoding.md R118), one constructor each, with the operand
fields of their formats (R111 to R115) that R116 does not require to be 0. -/

namespace Sys2Proof

/-- A polynomial register number, `PR[0]` to `PR[3]` (10_state.md R55, 30_encoding.md R121: written `P0`..`P3`). -/
inductive PReg where
  | P0
  | P1
  | P2
  | P3
  deriving DecidableEq, Repr

/-- The `SRC` field of format S (30_encoding.md R114): 0 = `DATA`, 1 = `CW`. -/
inductive Src where
  | data
  | cw
  deriving DecidableEq, Repr

/-- A command of the core. Byte operands are field elements; a shift, an EC count and a mask pattern are numbers, whose
range `Instr.WellFormed` states. -/
inductive Instr where
  /-- `NOP` (46_sequencer.md R310) -/
  | nop
  /-- `GF_MUL a, b` (41_gf.md R151) -/
  | gfMul (a b : Byte)
  /-- `GF_EXP a` (41_gf.md R152) -/
  | gfExp (a : Byte)
  /-- `GF_LOG a` (41_gf.md R153) -/
  | gfLog (a : Byte)
  /-- `PSETNUM Pd, shift` (41_gf.md R154) -/
  | pSetNum (d : PReg) (shift : Nat)
  /-- `PMUL Pd, Pa, Pb` (41_gf.md R155) -/
  | pMul (d a b : PReg)
  /-- `PMOD Pd, Pa, Pb` (41_gf.md R156) -/
  | pMod (d a b : PReg)
  /-- `RS_GEN Pd, ec` (42_rs.md R184) -/
  | rsGen (d : PReg) (ec : Nat)
  /-- `RS_ENC DATA|CW, ec` (42_rs.md R185) -/
  | rsEnc (src : Src) (ec : Nat)
  /-- `RS_SYN DATA|CW, ec` (42_rs.md R186) -/
  | rsSyn (src : Src) (ec : Nat)
  /-- `BLK_CFG` (43_blocks.md R206) -/
  | blkCfg
  /-- `INTERLEAVE` (43_blocks.md R207) -/
  | interleave
  /-- `MTX_BUILD mask` (44_matrix.md R251) -/
  | mtxBuild (mask : Nat)
  /-- `MASK_SCORE` (45_mask.md R288) -/
  | maskScore
  /-- `MTX_FINAL` (45_mask.md R289) -/
  | mtxFinal
  /-- `RUN` (46_sequencer.md R311) -/
  | run
  deriving DecidableEq, Repr

end Sys2Proof
end

