-- ==== Sys2Proof/WellFormed.lean ====
section
/-! DEFINITION. Which terms of `Instr` are commands of the hardware: every number fits its field
(30_encoding.md R113 to R115, R117). -/

namespace Sys2Proof

/-- `IMM8` is "unsigned 0..255" (30_encoding.md R113, R114). -/
def fitsImm8 (n : Nat) : Bool := n < 256

/-- `MASK` is a "mask pattern 0..7" (30_encoding.md R115). -/
def fitsMask (p : Nat) : Bool := p < 8

/-- Every operand of the command fits the field that carries it. -/
def Instr.wellFormed : Instr → Bool
  | .nop => true
  | .gfMul _ _ => true
  | .gfExp _ => true
  | .gfLog _ => true
  | .pSetNum _ shift => fitsImm8 shift
  | .pMul _ _ _ => true
  | .pMod _ _ _ => true
  | .rsGen _ ec => fitsImm8 ec
  | .rsEnc _ ec => fitsImm8 ec
  | .rsSyn _ ec => fitsImm8 ec
  | .blkCfg => true
  | .interleave => true
  | .mtxBuild mask => fitsMask mask
  | .maskScore => true
  | .mtxFinal => true
  | .run => true

/-- The command is one the hardware has. -/
abbrev Instr.WellFormed (i : Instr) : Prop := i.wellFormed = true

end Sys2Proof
end

