-- ==== Sys2Proof/Decode.lean ====
section
/-! DEFINITION. From a 32-bit command word to a command, and back (30_encoding.md R110 to R121). Decoding is total:
a word is a command, or is refused by name as illegal or reserved (R120). -/

namespace Sys2Proof

/-- Why a word is no command (30_encoding.md R119, R116; 60_exceptions.md R325 codes 1 and 2). -/
inductive DecodeError where
  /-- the opcode is unassigned (R119) -/
  | illegalOpc
  /-- a bit that R116 requires to be 0 is 1 -/
  | reserved
  deriving DecidableEq, Repr

/-- `bits[lo + len - 1 : lo]` of a word (00_scope.md R10). -/
abbrev field (w : Word) (lo len : Nat) : BitVec len := w.extractLsb' lo len

/-- `OPC`, bits 31:24 of every format (30_encoding.md R110). -/
def opcOf (w : Word) : BitVec 8 := field w 24 8

/-- Field `A` of format G, bits 23:16 (R112). -/
def fieldA (w : Word) : Byte := field w 16 8

/-- Field `B` of format G, bits 15:8 (R112). -/
def fieldB (w : Word) : Byte := field w 8 8

/-- `IMM8` of formats P and S, bits 7:0 (R113, R114). -/
def fieldImm8 (w : Word) : Nat := (field w 0 8).toNat

/-- `MASK` of format M, bits 2:0 (R115). -/
def fieldMask (w : Word) : Nat := (field w 0 3).toNat

/-- The polynomial register a 2-bit field numbers (R113, R117). -/
def PReg.ofField (f : BitVec 2) : PReg :=
  match f.toNat with
  | 0 => .P0
  | 1 => .P1
  | 2 => .P2
  | _ => .P3

/-- `PD`, bits 21:20 (R113). -/
def fieldPD (w : Word) : PReg := .ofField (field w 20 2)

/-- `PA`, bits 17:16 (R113). -/
def fieldPA (w : Word) : PReg := .ofField (field w 16 2)

/-- `PB`, bits 13:12 (R113). -/
def fieldPB (w : Word) : PReg := .ofField (field w 12 2)

/-- `SRC`, bit 16 of format S: 0 = `DATA`, 1 = `CW` (R114). -/
def fieldSrc (w : Word) : Src := if field w 16 1 = 0 then .data else .cw

/-- The fields, as (lowest bit, length), that format Z reserves (R111). -/
def zerosZ : List (Nat × Nat) := [(0, 24)]

/-- The fields format G reserves (R112). -/
def zerosG : List (Nat × Nat) := [(0, 8)]

/-- The fields format P reserves (R113). -/
def zerosP : List (Nat × Nat) := [(22, 2), (18, 2), (14, 2), (8, 4)]

/-- The fields format S reserves (R114). -/
def zerosS : List (Nat × Nat) := [(17, 7), (8, 8)]

/-- The fields format M reserves (R115). -/
def zerosM : List (Nat × Nat) := [(3, 21)]

/-- Unused `B` of `GF_EXP` and `GF_LOG` (R116). -/
def unusedB : List (Nat × Nat) := [(8, 8)]

/-- Unused `PA` and `PB` of `PSETNUM` and `RS_GEN` (R116). -/
def unusedPAPB : List (Nat × Nat) := [(16, 2), (12, 2)]

/-- Unused `IMM8` of `PMUL` and `PMOD` (R116). -/
def unusedImm8 : List (Nat × Nat) := [(0, 8)]

/-- Whether every listed field of the word is 0. -/
def allZero (w : Word) (fields : List (Nat × Nat)) : Bool :=
  fields.all fun f => (field w f.1 f.2).toNat == 0

/-- The command, if the fields that must be 0 are 0; else `E_RESERVED` (R116, R120). -/
def unlessReserved (w : Word) (fields : List (Nat × Nat)) (i : Instr) : Except DecodeError Instr :=
  if allZero w fields then .ok i else .error .reserved

/-- Decoding, in the order of 30_encoding.md R120: the opcode (R118, R119), then the reserved and unused fields
(R116), then the operands. -/
def decode (w : Word) : Except DecodeError Instr :=
  match (opcOf w).toNat with
  | 0x00 => unlessReserved w zerosZ .nop
  | 0x10 => unlessReserved w zerosG (.gfMul (fieldA w) (fieldB w))
  | 0x11 => unlessReserved w (zerosG ++ unusedB) (.gfExp (fieldA w))
  | 0x12 => unlessReserved w (zerosG ++ unusedB) (.gfLog (fieldA w))
  | 0x20 => unlessReserved w (zerosP ++ unusedPAPB) (.pSetNum (fieldPD w) (fieldImm8 w))
  | 0x21 => unlessReserved w (zerosP ++ unusedImm8) (.pMul (fieldPD w) (fieldPA w) (fieldPB w))
  | 0x22 => unlessReserved w (zerosP ++ unusedImm8) (.pMod (fieldPD w) (fieldPA w) (fieldPB w))
  | 0x30 => unlessReserved w (zerosP ++ unusedPAPB) (.rsGen (fieldPD w) (fieldImm8 w))
  | 0x31 => unlessReserved w zerosS (.rsEnc (fieldSrc w) (fieldImm8 w))
  | 0x32 => unlessReserved w zerosS (.rsSyn (fieldSrc w) (fieldImm8 w))
  | 0x40 => unlessReserved w zerosZ .blkCfg
  | 0x41 => unlessReserved w zerosZ .interleave
  | 0x50 => unlessReserved w zerosM (.mtxBuild (fieldMask w))
  | 0x51 => unlessReserved w zerosZ .maskScore
  | 0x52 => unlessReserved w zerosZ .mtxFinal
  | 0x60 => unlessReserved w zerosZ .run
  | _ => .error .illegalOpc

/-! ## The encoder (30_encoding.md R111 to R115, R118, R121) -/

/-- The number of a polynomial register. -/
def PReg.index : PReg → Fin 4
  | .P0 => 0
  | .P1 => 1
  | .P2 => 2
  | .P3 => 3

/-- The `SRC` bit (R114). -/
def Src.bit : Src → Nat
  | .data => 0
  | .cw => 1

/-- Opcode in bits 31:24, operand fields below (R110). -/
def commandWord (opc operands : Nat) : Word := BitVec.ofNat 32 (opc * 2 ^ 24 + operands)

/-- The word of a well-formed command, from the syntax table of 30_encoding.md R121. -/
def encode : Instr → Word
  | .nop => commandWord 0x00 0
  | .gfMul a b => commandWord 0x10 (a.toNat * 2 ^ 16 + b.toNat * 2 ^ 8)
  | .gfExp a => commandWord 0x11 (a.toNat * 2 ^ 16)
  | .gfLog a => commandWord 0x12 (a.toNat * 2 ^ 16)
  | .pSetNum d shift => commandWord 0x20 (d.index.val * 2 ^ 20 + shift)
  | .pMul d a b => commandWord 0x21 (d.index.val * 2 ^ 20 + a.index.val * 2 ^ 16 + b.index.val * 2 ^ 12)
  | .pMod d a b => commandWord 0x22 (d.index.val * 2 ^ 20 + a.index.val * 2 ^ 16 + b.index.val * 2 ^ 12)
  | .rsGen d ec => commandWord 0x30 (d.index.val * 2 ^ 20 + ec)
  | .rsEnc src ec => commandWord 0x31 (src.bit * 2 ^ 16 + ec)
  | .rsSyn src ec => commandWord 0x32 (src.bit * 2 ^ 16 + ec)
  | .blkCfg => commandWord 0x40 0
  | .interleave => commandWord 0x41 0
  | .mtxBuild mask => commandWord 0x50 mask
  | .maskScore => commandWord 0x51 0
  | .mtxFinal => commandWord 0x52 0
  | .run => commandWord 0x60 0

/-- The opcode-table row of a word: what the decoder reads from an instruction whose `nbits` low bits are `w`. Every
command is one 32-bit word (R110) and bit `i` of the bus word is bit `i` of the command (20_memory.md R82). -/
def decodeTableWord (nbits w : Nat) : Option Instr :=
  match decode (BitVec.ofNat 32 (w % 2 ^ nbits)) with
  | .ok i => some i
  | .error _ => none

end Sys2Proof
end

