-- ==== Sys2Proof/Config.lean ====
section
/-! DEFINITION. What an instance fixes: the parameters of 00_scope.md R8 and R9, the platform's named parameters,
and the free values the spec leaves open (93_implementation_defined.md part A). A free value is an opaque constant:
nothing can evaluate it. -/

namespace Sys2Proof

/-- Whether the candidates of an automatic selection are scored as built, or with the format, version and dark
module cells light (45_mask.md R287, parameter `P_CANDIDATE_INFO`). -/
inductive CandidateInfo where
  | full
  | blank
  deriving DecidableEq, Repr

/-- The policy parameters of 00_scope.md R9. -/
structure Policy where
  /-- `P_RULE1_SELF`: rule 1 counts the centre module (45_mask.md R281). -/
  rule1Self : Bool
  /-- `P_REMAINDER_MASKED`: remainder cells take the mask value (44_matrix.md R247). -/
  remainderMasked : Bool
  /-- `P_CANDIDATE_INFO` (45_mask.md R287). -/
  candidateInfo : CandidateInfo
  deriving DecidableEq, Repr

namespace Config

/-- The defaults of 00_scope.md R9: "A model built to this spec uses the default". Log entry 8. -/
def policy : Policy := { rule1Self := false, remainderMasked := false, candidateInfo := .full }

/-- `ID` (10_state.md R31): ASCII "QRC1". -/
def idValue : Word := 0x51524331#32

/-- Entries of `DATA` and of `CW` (00_scope.md R8). -/
def memEntries : Nat := 4096

/-- The most coefficients a polynomial register holds (00_scope.md R8, 10_state.md R55). -/
def polyMax : Nat := 256

/-- FREE VALUE. What `DATA` entry `i` holds after power-on reset number `k`, until it is written
(10_state.md R65, 70_reset_and_hazards.md R361, R369). Log entry 4. -/
opaque dataDraw : Nat → Nat → Byte

/-- FREE VALUE. What `CW` entry `i` holds after power-on reset number `k`, until it is written
(10_state.md R65, 70_reset_and_hazards.md R361, R369). Log entry 4. -/
opaque cwDraw : Nat → Nat → Byte

/-- FREE VALUE. Whether, at the abandonment number `k` of an `INTERLEAVE` or `RUN`, `CW` entry `i` already held the
value the command would have written (70_reset_and_hazards.md R367). Log entry 5. -/
opaque abandonTakesNew : Nat → Nat → Bool

/-- PLATFORM PARAMETER `QRC_BASE`: where the core lies in the host's address map (20_memory.md R84). DESIGN CHOICE: a host
address is 64 bits wide, which the spec leaves open (R81). Log entry 9. -/
opaque qrcBase : BitVec 64

/-- PLATFORM PARAMETER `QRC_IRQ_LINE`: the platform's number for the `IRQ` output (60_exceptions.md R330). Log entry 9. -/
opaque qrcIrqLine : Nat

end Config
end Sys2Proof
end

