-- ==== Sys2Proof/Machine/State.lean ====
section
/-! DEFINITION. Everything the spec gives the machine, as plain data (10_state.md; INVENTORY.md lists it), the free
names a stop could have, and the state right after power-on reset (10_state.md R64, R65). -/

namespace Sys2Proof.Machine

/-- The core has no fault: "no behaviour of the core is a fault or stuck under the rules" (93_implementation_defined.md
part A). No constructor, so no step can answer one. Log entry 12. -/
inductive Fault where
  deriving DecidableEq, Repr

/-- Why the model gives an instruction no meaning. -/
inductive Refusal where
  /-- Raised by `exec` alone, for an instruction the model does not reach yet; safe (the run stops). No arm uses it. -/
  | notModelled (mnemonic : String)
  deriving DecidableEq, Repr

/-- `CTRL` (10_state.md R32); `SRST` is write-only and has no storage. -/
structure Ctrl where
  ieDone : Bool
  ieErr : Bool
  deriving DecidableEq, Repr

/-- The stored fields of `STATUS` (10_state.md R33). `MTX_VALID` is `Mtx.valid`; `IRQ` is computed (R63). -/
structure Status where
  busy : Bool
  done : Bool
  err : Bool
  accErr : Bool
  cmdIgn : Bool
  errCode : Byte
  deriving DecidableEq, Repr

/-- `CFG_MASK` (10_state.md R42). -/
structure CfgMask where
  auto : Bool
  pat : BitVec 3
  deriving DecidableEq, Repr

/-- `CFG_QZ` (10_state.md R43). -/
structure CfgQz where
  en : Bool
  size : Byte
  deriving DecidableEq, Repr

/-- The block parameter registers `BLK_*` (10_state.md R46). -/
structure Blk where
  b1 : Word
  d1 : Word
  b2 : Word
  d2 : Word
  ec : Word
  tdata : Word
  tcw : Word
  rem : Word
  deriving DecidableEq, Repr

/-- The module types of 10_state.md R59, codes 0 to 9; codes 10 to 15 are not used. -/
inductive ModuleType where
  | empty
  | data
  | finder
  | separator
  | alignment
  | timing
  | format
  | version
  | darkModule
  | quietZone
  deriving DecidableEq, Repr

/-- One matrix cell, the source's Module: a type and a dark bit (10_state.md R58). -/
structure Cell where
  type : ModuleType
  dark : Bool
  deriving DecidableEq, Repr

/-- A matrix: its rows, top first; each row its cells, left first. `M[y][x]` is cell `x` of row `y` (00_scope.md R11). -/
abbrev Grid := List (List Cell)

/-- The matrix memory with its flag `STATUS.MTX_VALID` (10_state.md R58) and its descriptor registers (R47). -/
structure Mtx where
  valid : Bool
  n : Word
  version : Word
  ecc : Word
  mask : Word
  cells : Grid
  deriving DecidableEq, Repr

/-- The penalty registers `PEN_*` (10_state.md R49). -/
structure Pen where
  r1 : Word
  r2 : Word
  r3 : Word
  dark : Word
  r4num : Word
  deriving DecidableEq, Repr

/-- A polynomial: its coefficients, highest degree first; the empty list is zero (00_scope.md R12, 41_gf.md R147). -/
abbrev Poly := List Byte

/-- The written entries of an internal memory, as (entry, byte), strictly rising. An unlisted entry has not been
written since power-on. Log entry 14. -/
abbrev Memory := List Host.Cell

/-- One move: a host transaction, the engine's turn, or the platform's reset input (60_exceptions.md R320,
70_reset_and_hazards.md R360). -/
inductive Move where
  /-- `BusRead(a)` (20_memory.md R80) -/
  | busRead (a : BusAddr)
  /-- `BusWrite(a, v)` (20_memory.md R80) -/
  | busWrite (a : BusAddr) (v : Word)
  /-- the engine's completion step, if one is enabled (60_exceptions.md R320) -/
  | engine
  /-- power-on reset (70_reset_and_hazards.md R361) -/
  | powerOn
  deriving DecidableEq, Repr

/-- The machine. -/
structure State where
  ctrl : Ctrl
  status : Status
  /-- `CMD` (10_state.md R35): the last accepted command word -/
  cmd : Word
  /-- `ERRINFO` (R36) -/
  errInfo : Word
  /-- `RESULT` (R37) -/
  result : Word
  /-- `ARG0.START` (R38) -/
  arg0 : BitVec 12
  /-- `ARG1.COUNT` (R39) -/
  arg1 : BitVec 13
  /-- `CFG_VERSION` (R40) -/
  cfgVersion : BitVec 6
  /-- `CFG_ECC` (R41) -/
  cfgEcc : BitVec 2
  cfgMask : CfgMask
  cfgQz : CfgQz
  /-- `DLEN` (R44) -/
  dlen : BitVec 13
  blk : Blk
  mtx : Mtx
  pen : Pen
  /-- `SEL_MASK` (R50) -/
  selMask : Word
  /-- `CAND_INT[0..7]` (R51) -/
  candInt : Vector Word 8
  /-- `CAND_DARK[0..7]` (R51) -/
  candDark : Vector Word 8
  /-- `PR[0..3]` (R55); `PLEN[k]` is the length of `PR[k]` (R45) -/
  pr : Vector Poly 4
  /-- `ECO` (R56) -/
  eco : Vector Byte 256
  /-- `SYN` (R57) -/
  syn : Vector Byte 256
  /-- `DATA` (R53) -/
  data : Memory
  /-- `CW` (R54) -/
  cw : Memory
  /-- the model's own: the moves still to come, which stand for the host program and for `LATENCY`
  (70_reset_and_hazards.md R371). Log entry 1. -/
  agenda : List Move
  /-- the model's own: the word the last `BusRead` returned. Log entry 3. -/
  readData : Word
  /-- the model's own: how many power-on resets came before; it picks the power-on draws. Log entry 4. -/
  powerOns : Nat
  /-- the model's own: how many writing commands were abandoned; it picks the draws of R367. Log entry 5. -/
  abandons : Nat
  deriving DecidableEq, Repr

/-- The machine right after power-on reset (10_state.md R64, R65; 70_reset_and_hazards.md R361). Nothing has been written
to `DATA` and `CW`. The last four fields are the model's own (log entries 3 and 18). -/
def State.reset : State where
  ctrl := { ieDone := false, ieErr := false }
  status := { busy := false, done := false, err := false, accErr := false, cmdIgn := false, errCode := 0 }
  cmd := 0
  errInfo := 0
  result := 0
  arg0 := 0
  arg1 := 0
  cfgVersion := 0
  cfgEcc := 0
  cfgMask := { auto := true, pat := 0 }
  cfgQz := { en := false, size := 4 }
  dlen := 0
  blk := { b1 := 0, d1 := 0, b2 := 0, d2 := 0, ec := 0, tdata := 0, tcw := 0, rem := 0 }
  mtx := { valid := false, n := 0, version := 0, ecc := 0, mask := 0, cells := [] }
  pen := { r1 := 0, r2 := 0, r3 := 0, dark := 0, r4num := 0 }
  selMask := 0
  candInt := .replicate 8 0
  candDark := .replicate 8 0
  pr := .replicate 4 []
  eco := .replicate 256 0
  syn := .replicate 256 0
  data := []
  cw := []
  agenda := []
  readData := 0
  powerOns := 0
  abandons := 0

end Sys2Proof.Machine
end

