-- ==== Sys2Proof/Machine/Ops.lean ====
section
/-! DEFINITION. The named operations over memory and registers, the completion of a command, and the one error
completion (60_exceptions.md R320 to R328) with its acknowledgement beside it. -/

namespace Sys2Proof.Machine

/-! ## Internal memories (00_scope.md R11; 10_state.md R53, R54) -/

/-- The canonical form: entries strictly rising and inside the memory (log entry 14). -/
abbrev Memory.wf (m : Memory) : Prop :=
  List.Pairwise (fun a b => a.1 < b.1) m ∧ ∀ c ∈ m, c.1 < Config.memEntries

/-- The byte written to entry `i` since power-on, if one was. -/
def Memory.read? (m : Memory) (i : Nat) : Option Byte := m.lookup i

/-- Write the bytes `bs` to the entries `i`, `i + 1`, ... -/
def Memory.writeRun (m : Memory) (i : Nat) (bs : List Byte) : Memory :=
  m.filter (fun c => c.1 < i) ++ (bs.zipIdx i).map (fun p => (p.2, p.1)) ++ m.filter (fun c => i + bs.length ≤ c.1)

/-- `MemWrite` of one entry (00_scope.md R11). -/
def Memory.write (m : Memory) (i : Nat) (b : Byte) : Memory := m.writeRun i [b]

/-- `MemRead(DATA, i)` (00_scope.md R11): an entry not written since power-on gives its draw (10_state.md R65). -/
def State.readDataEntry (s : State) (i : Nat) : Byte := (s.data.read? i).getD (Config.dataDraw s.powerOns i)

/-- `MemRead(CW, i)` (00_scope.md R11): an entry not written since power-on gives its draw (10_state.md R65). -/
def State.readCw (s : State) (i : Nat) : Byte := (s.cw.read? i).getD (Config.cwDraw s.powerOns i)

/-! ## Polynomial registers (10_state.md R55) -/

/-- `PR[k]`. -/
def State.readPoly (s : State) (k : PReg) : Poly := s.pr[k.index]

/-- `PLEN[k]` (10_state.md R45). -/
def State.plen (s : State) (k : PReg) : Nat := (s.readPoly k).length

/-- `PR[k] <- P`, and `PLEN[k]` with it. -/
def State.writePoly (s : State) (k : PReg) (P : Poly) : State := { s with pr := s.pr.set k.index P }

/-! ## Result registers and memories -/

/-- The 256 entries of `ECO` or `SYN`: the list, then zeros (10_state.md R56, R57). -/
def padTo256 (l : List Byte) : Vector Byte 256 :=
  ⟨((l ++ List.replicate 256 0).take 256).toArray, by
    rw [List.size_toArray, List.length_take, List.length_append, List.length_replicate]; omega⟩

/-- `RESULT <- v` (10_state.md R37). -/
def State.writeResult (s : State) (v : Word) : State := { s with result := v }

/-- `ECO[i] <- E[i]` for i < ec and 0 beyond (42_rs.md R185). -/
def State.writeEco (s : State) (l : List Byte) : State := { s with eco := padTo256 l }

/-- `SYN[i] <- Y[i]` for i < ec and 0 beyond (42_rs.md R186). -/
def State.writeSyn (s : State) (l : List Byte) : State := { s with syn := padTo256 l }

/-- `MemWrite(CW, i, IL[i])` for every `i` of the sequence (43_blocks.md R207). -/
def State.writeCwRun (s : State) (l : List Byte) : State := { s with cw := s.cw.writeRun 0 l }

/-- Write the block parameter registers (10_state.md R46). -/
def State.writeBlk (s : State) (b : Blk) : State := { s with blk := b }

/-- Replace the matrix and its descriptor registers (10_state.md R47, R58). -/
def State.writeMtx (s : State) (m : Mtx) : State := { s with mtx := m }

/-- Write the penalty registers (10_state.md R49). -/
def State.writePen (s : State) (p : Pen) : State := { s with pen := p }

/-- `SEL_MASK <- v` (10_state.md R50). -/
def State.writeSelMask (s : State) (v : Word) : State := { s with selMask := v }

/-- Write the candidate registers (10_state.md R51). -/
def State.writeCands (s : State) (ints darks : Vector Word 8) : State :=
  { s with candInt := ints, candDark := darks }

/-! ## The life cycle of a command (60_exceptions.md) -/

/-- The error codes of 60_exceptions.md R325. -/
inductive ErrCode where
  | illegalOpc
  | reserved
  | invalidOption
  | logZero
  | polyLen
  | divZero
  | range
  | cwCount
  | noMatrix
  deriving DecidableEq, Repr

/-- The value of `STATUS.ERRCODE` (60_exceptions.md R325). -/
def ErrCode.code : ErrCode → Byte
  | .illegalOpc => 1
  | .reserved => 2
  | .invalidOption => 3
  | .logZero => 4
  | .polyLen => 5
  | .divZero => 6
  | .range => 7
  | .cwCount => 8
  | .noMatrix => 9

/-- `Err(code, info)` of a rule's `raise` (00_scope.md R11). -/
structure CmdErr where
  code : ErrCode
  info : Word
  deriving DecidableEq, Repr

/-- Acceptance of a command word: `CMD <- w`, `DONE <- 0`, `BUSY <- 1` (60_exceptions.md R320). -/
def State.accept (s : State) (w : Word) : State :=
  { s with cmd := w, status := { s.status with done := false, busy := true } }

/-- Successful completion: `DONE <- 1`, `BUSY <- 0` (60_exceptions.md R322, R323). -/
def State.complete (s : State) : State := { s with status := { s.status with done := true, busy := false } }

/-- Error completion: `ERR <- 1`, `ERRCODE`, `ERRINFO`, `BUSY <- 0`, and nothing else (60_exceptions.md R322, R324). -/
def State.raiseErr (s : State) (e : CmdErr) : State :=
  { s with status := { s.status with err := true, errCode := e.code.code, busy := false }, errInfo := e.info }

/-- Acknowledgement of an error, the return from it: `ERR`, `ERRCODE` and `ERRINFO` are cleared together
(10_state.md R34, 60_exceptions.md R328). -/
def State.ackErr (s : State) : State :=
  { s with status := { s.status with err := false, errCode := 0 }, errInfo := 0 }

/-- `ACC_ERR <- 1`, the only effect of an access error (60_exceptions.md R329). -/
def State.accessError (s : State) : State := { s with status := { s.status with accErr := true } }

/-- `CMD_IGN <- 1`, the only effect of a command word that is not accepted (60_exceptions.md R321). -/
def State.ignoreCmd (s : State) : State := { s with status := { s.status with cmdIgn := true } }

/-- The two ends of a completion step (60_exceptions.md R322): the command's checks and pseudocode either raise an
error, which changes nothing they did, or give the state the completion starts from. -/
def finish (s : State) (r : Except CmdErr State) : Host.Outcome State Fault Refusal :=
  match r with
  | .ok t => .next t.complete
  | .error e => .next (s.raiseErr e)

/-- Every register at its reset value, the polynomial registers empty, `ECO` and `SYN` zero, the matrix invalid
(70_reset_and_hazards.md R361); `DATA`, `CW` and the model's own fields stay. Both resets do this. -/
def State.resetRegisters (s : State) : State :=
  { State.reset with
    data := s.data, cw := s.cw, agenda := s.agenda, readData := s.readData,
    powerOns := s.powerOns, abandons := s.abandons }

/-- Power-on reset (70_reset_and_hazards.md R361): also `DATA` and `CW` hold new draws, nothing of them being written.
Log entry 13. -/
def State.powerOnReset (s : State) : State :=
  { s.resetRegisters with data := [], cw := [], powerOns := s.powerOns + 1 }

end Sys2Proof.Machine
end

