-- ==== Sys2Proof/Machine/Flags.lean ====
section
/-! DEFINITION. The status bits: the words `STATUS` and `CTRL` read as, the write-1-to-clear write, and the interrupt
level (10_state.md R32 to R34, R63). -/

namespace Sys2Proof.Machine

/-- One bit of a register. -/
abbrev bit (b : Bool) : BitVec 1 := BitVec.ofBool b

/-- `IRQ = (CTRL.IE_DONE & STATUS.DONE) | (CTRL.IE_ERR & STATUS.ERR)` (10_state.md R63, 60_exceptions.md R330). -/
def State.irq (s : State) : Bool := (s.ctrl.ieDone && s.status.done) || (s.ctrl.ieErr && s.status.err)

/-- The level of line `n` of the platform: the core drives line `QRC_IRQ_LINE` (60_exceptions.md R330). Log entry 9. -/
def State.irqOnLine (s : State) (n : Nat) : Bool := n == Config.qrcIrqLine && s.irq

/-- What a read of `CTRL` returns: bit 2 `IE_ERR`, bit 1 `IE_DONE`, the rest 0 (10_state.md R32). -/
def State.ctrlWord (s : State) : Word := 0#29 ++ bit s.ctrl.ieErr ++ bit s.ctrl.ieDone ++ 0#1

/-- What a read of `STATUS` returns, bits 31 down to 0 (10_state.md R33). -/
def State.statusWord (s : State) : Word :=
  0#16 ++ s.status.errCode ++ 0#1 ++ bit s.irq ++ bit s.mtx.valid ++ bit s.status.cmdIgn ++ bit s.status.accErr ++
    bit s.status.err ++ bit s.status.done ++ bit s.status.busy

/-- Clear `DONE` if `v[1]` (10_state.md R34). -/
def State.clearDone (s : State) (v : Word) : State :=
  if v.getLsbD 1 then { s with status := { s.status with done := false } } else s

/-- Clear `ERR`, `ERRCODE` and `ERRINFO` if `v[2]` (10_state.md R34). -/
def State.clearErr (s : State) (v : Word) : State := if v.getLsbD 2 then s.ackErr else s

/-- Clear `ACC_ERR` if `v[3]` (10_state.md R34). -/
def State.clearAccErr (s : State) (v : Word) : State :=
  if v.getLsbD 3 then { s with status := { s.status with accErr := false } } else s

/-- Clear `CMD_IGN` if `v[4]` (10_state.md R34). -/
def State.clearCmdIgn (s : State) (v : Word) : State :=
  if v.getLsbD 4 then { s with status := { s.status with cmdIgn := false } } else s

/-- A write of `v` to `STATUS` (10_state.md R34). -/
def State.writeStatus (s : State) (v : Word) : State := (((s.clearDone v).clearErr v).clearAccErr v).clearCmdIgn v

end Sys2Proof.Machine
end

