-- ==== Sys2Proof/Machine/Tables.lean ====
section
/-! DEFINITION. The constant tables of 10_state.md R61, written out from the spec's own grids, with the functions
that look them up. They are "read-only state fixed at manufacture". -/

namespace Sys2Proof.Machine

/-! ## `EXP` and `LOG` (41_gf.md R144, R145) -/

/-- The `EXP` table, one line per row of the grid of 41_gf.md R144. -/
def expGrid : List Nat :=
  [0x01, 0x02, 0x04, 0x08, 0x10, 0x20, 0x40, 0x80, 0x1D, 0x3A, 0x74, 0xE8, 0xCD, 0x87, 0x13, 0x26] ++
  [0x4C, 0x98, 0x2D, 0x5A, 0xB4, 0x75, 0xEA, 0xC9, 0x8F, 0x03, 0x06, 0x0C, 0x18, 0x30, 0x60, 0xC0] ++
  [0x9D, 0x27, 0x4E, 0x9C, 0x25, 0x4A, 0x94, 0x35, 0x6A, 0xD4, 0xB5, 0x77, 0xEE, 0xC1, 0x9F, 0x23] ++
  [0x46, 0x8C, 0x05, 0x0A, 0x14, 0x28, 0x50, 0xA0, 0x5D, 0xBA, 0x69, 0xD2, 0xB9, 0x6F, 0xDE, 0xA1] ++
  [0x5F, 0xBE, 0x61, 0xC2, 0x99, 0x2F, 0x5E, 0xBC, 0x65, 0xCA, 0x89, 0x0F, 0x1E, 0x3C, 0x78, 0xF0] ++
  [0xFD, 0xE7, 0xD3, 0xBB, 0x6B, 0xD6, 0xB1, 0x7F, 0xFE, 0xE1, 0xDF, 0xA3, 0x5B, 0xB6, 0x71, 0xE2] ++
  [0xD9, 0xAF, 0x43, 0x86, 0x11, 0x22, 0x44, 0x88, 0x0D, 0x1A, 0x34, 0x68, 0xD0, 0xBD, 0x67, 0xCE] ++
  [0x81, 0x1F, 0x3E, 0x7C, 0xF8, 0xED, 0xC7, 0x93, 0x3B, 0x76, 0xEC, 0xC5, 0x97, 0x33, 0x66, 0xCC] ++
  [0x85, 0x17, 0x2E, 0x5C, 0xB8, 0x6D, 0xDA, 0xA9, 0x4F, 0x9E, 0x21, 0x42, 0x84, 0x15, 0x2A, 0x54] ++
  [0xA8, 0x4D, 0x9A, 0x29, 0x52, 0xA4, 0x55, 0xAA, 0x49, 0x92, 0x39, 0x72, 0xE4, 0xD5, 0xB7, 0x73] ++
  [0xE6, 0xD1, 0xBF, 0x63, 0xC6, 0x91, 0x3F, 0x7E, 0xFC, 0xE5, 0xD7, 0xB3, 0x7B, 0xF6, 0xF1, 0xFF] ++
  [0xE3, 0xDB, 0xAB, 0x4B, 0x96, 0x31, 0x62, 0xC4, 0x95, 0x37, 0x6E, 0xDC, 0xA5, 0x57, 0xAE, 0x41] ++
  [0x82, 0x19, 0x32, 0x64, 0xC8, 0x8D, 0x07, 0x0E, 0x1C, 0x38, 0x70, 0xE0, 0xDD, 0xA7, 0x53, 0xA6] ++
  [0x51, 0xA2, 0x59, 0xB2, 0x79, 0xF2, 0xF9, 0xEF, 0xC3, 0x9B, 0x2B, 0x56, 0xAC, 0x45, 0x8A, 0x09] ++
  [0x12, 0x24, 0x48, 0x90, 0x3D, 0x7A, 0xF4, 0xF5, 0xF7, 0xF3, 0xFB, 0xEB, 0xCB, 0x8B, 0x0B, 0x16] ++
  [0x2C, 0x58, 0xB0, 0x7D, 0xFA, 0xE9, 0xCF, 0x83, 0x1B, 0x36, 0x6C, 0xD8, 0xAD, 0x47, 0x8E, 0x01]

/-- The `LOG` table of 41_gf.md R145 from `LOG[1]` on; `LOG[0]` is the sentinel, which has no field value (R142). -/
def logGrid : List Nat :=
  [0x00, 0x01, 0x19, 0x02, 0x32, 0x1A, 0xC6, 0x03, 0xDF, 0x33, 0xEE, 0x1B, 0x68, 0xC7, 0x4B] ++
  [0x04, 0x64, 0xE0, 0x0E, 0x34, 0x8D, 0xEF, 0x81, 0x1C, 0xC1, 0x69, 0xF8, 0xC8, 0x08, 0x4C, 0x71] ++
  [0x05, 0x8A, 0x65, 0x2F, 0xE1, 0x24, 0x0F, 0x21, 0x35, 0x93, 0x8E, 0xDA, 0xF0, 0x12, 0x82, 0x45] ++
  [0x1D, 0xB5, 0xC2, 0x7D, 0x6A, 0x27, 0xF9, 0xB9, 0xC9, 0x9A, 0x09, 0x78, 0x4D, 0xE4, 0x72, 0xA6] ++
  [0x06, 0xBF, 0x8B, 0x62, 0x66, 0xDD, 0x30, 0xFD, 0xE2, 0x98, 0x25, 0xB3, 0x10, 0x91, 0x22, 0x88] ++
  [0x36, 0xD0, 0x94, 0xCE, 0x8F, 0x96, 0xDB, 0xBD, 0xF1, 0xD2, 0x13, 0x5C, 0x83, 0x38, 0x46, 0x40] ++
  [0x1E, 0x42, 0xB6, 0xA3, 0xC3, 0x48, 0x7E, 0x6E, 0x6B, 0x3A, 0x28, 0x54, 0xFA, 0x85, 0xBA, 0x3D] ++
  [0xCA, 0x5E, 0x9B, 0x9F, 0x0A, 0x15, 0x79, 0x2B, 0x4E, 0xD4, 0xE5, 0xAC, 0x73, 0xF3, 0xA7, 0x57] ++
  [0x07, 0x70, 0xC0, 0xF7, 0x8C, 0x80, 0x63, 0x0D, 0x67, 0x4A, 0xDE, 0xED, 0x31, 0xC5, 0xFE, 0x18] ++
  [0xE3, 0xA5, 0x99, 0x77, 0x26, 0xB8, 0xB4, 0x7C, 0x11, 0x44, 0x92, 0xD9, 0x23, 0x20, 0x89, 0x2E] ++
  [0x37, 0x3F, 0xD1, 0x5B, 0x95, 0xBC, 0xCF, 0xCD, 0x90, 0x87, 0x97, 0xB2, 0xDC, 0xFC, 0xBE, 0x61] ++
  [0xF2, 0x56, 0xD3, 0xAB, 0x14, 0x2A, 0x5D, 0x9E, 0x84, 0x3C, 0x39, 0x53, 0x47, 0x6D, 0x41, 0xA2] ++
  [0x1F, 0x2D, 0x43, 0xD8, 0xB7, 0x7B, 0xA4, 0x76, 0xC4, 0x17, 0x49, 0xEC, 0x7F, 0x0C, 0x6F, 0xF6] ++
  [0x6C, 0xA1, 0x3B, 0x52, 0x29, 0x9D, 0x55, 0xAA, 0xFB, 0x60, 0x86, 0xB1, 0xBB, 0xCC, 0x3E, 0x5A] ++
  [0xCB, 0x59, 0x5F, 0xB0, 0x9C, 0xA9, 0xA0, 0x51, 0x0B, 0xF5, 0x16, 0xEB, 0x7A, 0x75, 0x2C, 0xD7] ++
  [0x4F, 0xAE, 0xD5, 0xE9, 0xE6, 0xE7, 0xAD, 0xE8, 0x74, 0xD6, 0xF4, 0xEA, 0xA8, 0x50, 0x58, 0xAF]

/-- `EXP[i]`, 0 <= i <= 255 (41_gf.md R141, R144). -/
def expAt (i : Nat) : Byte := BitVec.ofNat 8 (expGrid.getD i 0)

/-- `LOG[a]` of a nonzero element (41_gf.md R142, R145). No rule reads it at 0. -/
def logAt (a : Byte) : Nat := logGrid.getD (a.toNat - 1) 0

/-! ## The block table (43_blocks.md R200, R202) -/

/-- The block parameters of a configuration (43_blocks.md R200). -/
structure BlockParams where
  b1 : Nat
  d1 : Nat
  b2 : Nat
  d2 : Nat
  ec : Nat
  tdata : Nat
  tcw : Nat
  rem : Nat
  deriving DecidableEq, Repr

/-- An error-correction level (00_scope.md R8). -/
inductive Ecc where
  | L
  | M
  | Q
  | H
  deriving DecidableEq, Repr

/-- The level a `CFG_ECC` code names: 0 = L, 1 = M, 2 = Q, 3 = H (10_state.md R41). -/
def Ecc.ofCode (c : BitVec 2) : Ecc :=
  match c.toNat with
  | 0 => .L
  | 1 => .M
  | 2 => .Q
  | _ => .H

/-- The `CFG_ECC` code of a level (10_state.md R41). -/
def Ecc.code : Ecc → Nat
  | .L => 0
  | .M => 1
  | .Q => 2
  | .H => 3

/-- The rows of 43_blocks.md R202 for versions 1 to 8: for each version its rows L, M, Q, H. -/
def blockRows1 : List (List BlockParams) :=
  [[⟨1, 19, 0, 20, 7, 19, 26, 0⟩,
    ⟨1, 16, 0, 17, 10, 16, 26, 0⟩,
    ⟨1, 13, 0, 14, 13, 13, 26, 0⟩,
    ⟨1, 9, 0, 10, 17, 9, 26, 0⟩]] ++
  [[⟨1, 34, 0, 35, 10, 34, 44, 7⟩,
    ⟨1, 28, 0, 29, 16, 28, 44, 7⟩,
    ⟨1, 22, 0, 23, 22, 22, 44, 7⟩,
    ⟨1, 16, 0, 17, 28, 16, 44, 7⟩]] ++
  [[⟨1, 55, 0, 56, 15, 55, 70, 7⟩,
    ⟨1, 44, 0, 45, 26, 44, 70, 7⟩,
    ⟨2, 17, 0, 18, 18, 34, 70, 7⟩,
    ⟨2, 13, 0, 14, 22, 26, 70, 7⟩]] ++
  [[⟨1, 80, 0, 81, 20, 80, 100, 7⟩,
    ⟨2, 32, 0, 33, 18, 64, 100, 7⟩,
    ⟨2, 24, 0, 25, 26, 48, 100, 7⟩,
    ⟨4, 9, 0, 10, 16, 36, 100, 7⟩]] ++
  [[⟨1, 108, 0, 109, 26, 108, 134, 7⟩,
    ⟨2, 43, 0, 44, 24, 86, 134, 7⟩,
    ⟨2, 15, 2, 16, 18, 62, 134, 7⟩,
    ⟨2, 11, 2, 12, 22, 46, 134, 7⟩]] ++
  [[⟨2, 68, 0, 69, 18, 136, 172, 7⟩,
    ⟨4, 27, 0, 28, 16, 108, 172, 7⟩,
    ⟨4, 19, 0, 20, 24, 76, 172, 7⟩,
    ⟨4, 15, 0, 16, 28, 60, 172, 7⟩]] ++
  [[⟨2, 78, 0, 79, 20, 156, 196, 0⟩,
    ⟨4, 31, 0, 32, 18, 124, 196, 0⟩,
    ⟨2, 14, 4, 15, 18, 88, 196, 0⟩,
    ⟨4, 13, 1, 14, 26, 66, 196, 0⟩]] ++
  [[⟨2, 97, 0, 98, 24, 194, 242, 0⟩,
    ⟨2, 38, 2, 39, 22, 154, 242, 0⟩,
    ⟨4, 18, 2, 19, 22, 110, 242, 0⟩,
    ⟨4, 14, 2, 15, 26, 86, 242, 0⟩]]

/-- The rows of 43_blocks.md R202 for versions 9 to 16: for each version its rows L, M, Q, H. -/
def blockRows9 : List (List BlockParams) :=
  [[⟨2, 116, 0, 117, 30, 232, 292, 0⟩,
    ⟨3, 36, 2, 37, 22, 182, 292, 0⟩,
    ⟨4, 16, 4, 17, 20, 132, 292, 0⟩,
    ⟨4, 12, 4, 13, 24, 100, 292, 0⟩]] ++
  [[⟨2, 68, 2, 69, 18, 274, 346, 0⟩,
    ⟨4, 43, 1, 44, 26, 216, 346, 0⟩,
    ⟨6, 19, 2, 20, 24, 154, 346, 0⟩,
    ⟨6, 15, 2, 16, 28, 122, 346, 0⟩]] ++
  [[⟨4, 81, 0, 82, 20, 324, 404, 0⟩,
    ⟨1, 50, 4, 51, 30, 254, 404, 0⟩,
    ⟨4, 22, 4, 23, 28, 180, 404, 0⟩,
    ⟨3, 12, 8, 13, 24, 140, 404, 0⟩]] ++
  [[⟨2, 92, 2, 93, 24, 370, 466, 0⟩,
    ⟨6, 36, 2, 37, 22, 290, 466, 0⟩,
    ⟨4, 20, 6, 21, 26, 206, 466, 0⟩,
    ⟨7, 14, 4, 15, 28, 158, 466, 0⟩]] ++
  [[⟨4, 107, 0, 108, 26, 428, 532, 0⟩,
    ⟨8, 37, 1, 38, 22, 334, 532, 0⟩,
    ⟨8, 20, 4, 21, 24, 244, 532, 0⟩,
    ⟨12, 11, 4, 12, 22, 180, 532, 0⟩]] ++
  [[⟨3, 115, 1, 116, 30, 461, 581, 3⟩,
    ⟨4, 40, 5, 41, 24, 365, 581, 3⟩,
    ⟨11, 16, 5, 17, 20, 261, 581, 3⟩,
    ⟨11, 12, 5, 13, 24, 197, 581, 3⟩]] ++
  [[⟨5, 87, 1, 88, 22, 523, 655, 3⟩,
    ⟨5, 41, 5, 42, 24, 415, 655, 3⟩,
    ⟨5, 24, 7, 25, 30, 295, 655, 3⟩,
    ⟨11, 12, 7, 13, 24, 223, 655, 3⟩]] ++
  [[⟨5, 98, 1, 99, 24, 589, 733, 3⟩,
    ⟨7, 45, 3, 46, 28, 453, 733, 3⟩,
    ⟨15, 19, 2, 20, 24, 325, 733, 3⟩,
    ⟨3, 15, 13, 16, 30, 253, 733, 3⟩]]

/-- The rows of 43_blocks.md R202 for versions 17 to 24: for each version its rows L, M, Q, H. -/
def blockRows17 : List (List BlockParams) :=
  [[⟨1, 107, 5, 108, 28, 647, 815, 3⟩,
    ⟨10, 46, 1, 47, 28, 507, 815, 3⟩,
    ⟨1, 22, 15, 23, 28, 367, 815, 3⟩,
    ⟨2, 14, 17, 15, 28, 283, 815, 3⟩]] ++
  [[⟨5, 120, 1, 121, 30, 721, 901, 3⟩,
    ⟨9, 43, 4, 44, 26, 563, 901, 3⟩,
    ⟨17, 22, 1, 23, 28, 397, 901, 3⟩,
    ⟨2, 14, 19, 15, 28, 313, 901, 3⟩]] ++
  [[⟨3, 113, 4, 114, 28, 795, 991, 3⟩,
    ⟨3, 44, 11, 45, 26, 627, 991, 3⟩,
    ⟨17, 21, 4, 22, 26, 445, 991, 3⟩,
    ⟨9, 13, 16, 14, 26, 341, 991, 3⟩]] ++
  [[⟨3, 107, 5, 108, 28, 861, 1085, 3⟩,
    ⟨3, 41, 13, 42, 26, 669, 1085, 3⟩,
    ⟨15, 24, 5, 25, 30, 485, 1085, 3⟩,
    ⟨15, 15, 10, 16, 28, 385, 1085, 3⟩]] ++
  [[⟨4, 116, 4, 117, 28, 932, 1156, 4⟩,
    ⟨17, 42, 0, 43, 26, 714, 1156, 4⟩,
    ⟨17, 22, 6, 23, 28, 512, 1156, 4⟩,
    ⟨19, 16, 6, 17, 30, 406, 1156, 4⟩]] ++
  [[⟨2, 111, 7, 112, 28, 1006, 1258, 4⟩,
    ⟨17, 46, 0, 47, 28, 782, 1258, 4⟩,
    ⟨7, 24, 16, 25, 30, 568, 1258, 4⟩,
    ⟨34, 13, 0, 14, 24, 442, 1258, 4⟩]] ++
  [[⟨4, 121, 5, 122, 30, 1094, 1364, 4⟩,
    ⟨4, 47, 14, 48, 28, 860, 1364, 4⟩,
    ⟨11, 24, 14, 25, 30, 614, 1364, 4⟩,
    ⟨16, 15, 14, 16, 30, 464, 1364, 4⟩]] ++
  [[⟨6, 117, 4, 118, 30, 1174, 1474, 4⟩,
    ⟨6, 45, 14, 46, 28, 914, 1474, 4⟩,
    ⟨11, 24, 16, 25, 30, 664, 1474, 4⟩,
    ⟨30, 16, 2, 17, 30, 514, 1474, 4⟩]]

/-- The rows of 43_blocks.md R202 for versions 25 to 32: for each version its rows L, M, Q, H. -/
def blockRows25 : List (List BlockParams) :=
  [[⟨8, 106, 4, 107, 26, 1276, 1588, 4⟩,
    ⟨8, 47, 13, 48, 28, 1000, 1588, 4⟩,
    ⟨7, 24, 22, 25, 30, 718, 1588, 4⟩,
    ⟨22, 15, 13, 16, 30, 538, 1588, 4⟩]] ++
  [[⟨10, 114, 2, 115, 28, 1370, 1706, 4⟩,
    ⟨19, 46, 4, 47, 28, 1062, 1706, 4⟩,
    ⟨28, 22, 6, 23, 28, 754, 1706, 4⟩,
    ⟨33, 16, 4, 17, 30, 596, 1706, 4⟩]] ++
  [[⟨8, 122, 4, 123, 30, 1468, 1828, 4⟩,
    ⟨22, 45, 3, 46, 28, 1128, 1828, 4⟩,
    ⟨8, 23, 26, 24, 30, 808, 1828, 4⟩,
    ⟨12, 15, 28, 16, 30, 628, 1828, 4⟩]] ++
  [[⟨3, 117, 10, 118, 30, 1531, 1921, 3⟩,
    ⟨3, 45, 23, 46, 28, 1193, 1921, 3⟩,
    ⟨4, 24, 31, 25, 30, 871, 1921, 3⟩,
    ⟨11, 15, 31, 16, 30, 661, 1921, 3⟩]] ++
  [[⟨7, 116, 7, 117, 30, 1631, 2051, 3⟩,
    ⟨21, 45, 7, 46, 28, 1267, 2051, 3⟩,
    ⟨1, 23, 37, 24, 30, 911, 2051, 3⟩,
    ⟨19, 15, 26, 16, 30, 701, 2051, 3⟩]] ++
  [[⟨5, 115, 10, 116, 30, 1735, 2185, 3⟩,
    ⟨19, 47, 10, 48, 28, 1373, 2185, 3⟩,
    ⟨15, 24, 25, 25, 30, 985, 2185, 3⟩,
    ⟨23, 15, 25, 16, 30, 745, 2185, 3⟩]] ++
  [[⟨13, 115, 3, 116, 30, 1843, 2323, 3⟩,
    ⟨2, 46, 29, 47, 28, 1455, 2323, 3⟩,
    ⟨42, 24, 1, 25, 30, 1033, 2323, 3⟩,
    ⟨23, 15, 28, 16, 30, 793, 2323, 3⟩]] ++
  [[⟨17, 115, 0, 116, 30, 1955, 2465, 3⟩,
    ⟨10, 46, 23, 47, 28, 1541, 2465, 3⟩,
    ⟨10, 24, 35, 25, 30, 1115, 2465, 3⟩,
    ⟨19, 15, 35, 16, 30, 845, 2465, 3⟩]]

/-- The rows of 43_blocks.md R202 for versions 33 to 40: for each version its rows L, M, Q, H. -/
def blockRows33 : List (List BlockParams) :=
  [[⟨17, 115, 1, 116, 30, 2071, 2611, 3⟩,
    ⟨14, 46, 21, 47, 28, 1631, 2611, 3⟩,
    ⟨29, 24, 19, 25, 30, 1171, 2611, 3⟩,
    ⟨11, 15, 46, 16, 30, 901, 2611, 3⟩]] ++
  [[⟨13, 115, 6, 116, 30, 2191, 2761, 3⟩,
    ⟨14, 46, 23, 47, 28, 1725, 2761, 3⟩,
    ⟨44, 24, 7, 25, 30, 1231, 2761, 3⟩,
    ⟨59, 16, 1, 17, 30, 961, 2761, 3⟩]] ++
  [[⟨12, 121, 7, 122, 30, 2306, 2876, 0⟩,
    ⟨12, 47, 26, 48, 28, 1812, 2876, 0⟩,
    ⟨39, 24, 14, 25, 30, 1286, 2876, 0⟩,
    ⟨22, 15, 41, 16, 30, 986, 2876, 0⟩]] ++
  [[⟨6, 121, 14, 122, 30, 2434, 3034, 0⟩,
    ⟨6, 47, 34, 48, 28, 1914, 3034, 0⟩,
    ⟨46, 24, 10, 25, 30, 1354, 3034, 0⟩,
    ⟨2, 15, 64, 16, 30, 1054, 3034, 0⟩]] ++
  [[⟨17, 122, 4, 123, 30, 2566, 3196, 0⟩,
    ⟨29, 46, 14, 47, 28, 1992, 3196, 0⟩,
    ⟨49, 24, 10, 25, 30, 1426, 3196, 0⟩,
    ⟨24, 15, 46, 16, 30, 1096, 3196, 0⟩]] ++
  [[⟨4, 122, 18, 123, 30, 2702, 3362, 0⟩,
    ⟨13, 46, 32, 47, 28, 2102, 3362, 0⟩,
    ⟨48, 24, 14, 25, 30, 1502, 3362, 0⟩,
    ⟨42, 15, 32, 16, 30, 1142, 3362, 0⟩]] ++
  [[⟨20, 117, 4, 118, 30, 2812, 3532, 0⟩,
    ⟨40, 47, 7, 48, 28, 2216, 3532, 0⟩,
    ⟨43, 24, 22, 25, 30, 1582, 3532, 0⟩,
    ⟨10, 15, 67, 16, 30, 1222, 3532, 0⟩]] ++
  [[⟨19, 118, 6, 119, 30, 2956, 3706, 0⟩,
    ⟨18, 47, 31, 48, 28, 2334, 3706, 0⟩,
    ⟨34, 24, 34, 25, 30, 1666, 3706, 0⟩,
    ⟨20, 15, 61, 16, 30, 1276, 3706, 0⟩]]

/-- The block table, version 1 first (43_blocks.md R202). -/
def blockRows : List (List BlockParams) :=
  blockRows1 ++ blockRows9 ++ blockRows17 ++ blockRows25 ++ blockRows33

/-- A row of zeros, for the versions the table does not have. -/
def noBlocks : BlockParams := ⟨0, 0, 0, 0, 0, 0, 0, 0⟩

/-- `table(v, e)` (43_blocks.md R200, R202), for 1 <= v <= 40. -/
def blockTable (v : Nat) (e : Ecc) : BlockParams :=
  if v = 0 then noBlocks else (blockRows.getD (v - 1) []).getD e.code noBlocks

/-! ## Alignment, version and format tables (44_matrix.md R236, R240, R242) -/

/-- The alignment coordinates `AP(v)`, version 1 first (44_matrix.md R236). -/
def alignmentRows : List (List Nat) :=
  [[], [6, 18], [6, 22], [6, 26], [6, 30]] ++
  [[6, 34], [6, 22, 38], [6, 24, 42], [6, 26, 46], [6, 28, 50]] ++
  [[6, 30, 54], [6, 32, 58], [6, 34, 62], [6, 26, 46, 66], [6, 26, 48, 70]] ++
  [[6, 26, 50, 74], [6, 30, 54, 78], [6, 30, 56, 82], [6, 30, 58, 86], [6, 34, 62, 90]] ++
  [[6, 28, 50, 72, 94], [6, 26, 50, 74, 98], [6, 30, 54, 78, 102], [6, 28, 54, 80, 106], [6, 32, 58, 84, 110]] ++
  [[6, 30, 58, 86, 114], [6, 34, 62, 90, 118], [6, 26, 50, 74, 98, 122], [6, 30, 54, 78, 102, 126], [6, 26, 52, 78, 104, 130]] ++
  [[6, 30, 56, 82, 108, 134], [6, 34, 60, 86, 112, 138], [6, 30, 58, 86, 114, 142], [6, 34, 62, 90, 118, 146], [6, 30, 54, 78, 102, 126, 150]] ++
  [[6, 24, 50, 76, 102, 128, 154], [6, 28, 54, 80, 106, 132, 158], [6, 32, 58, 84, 110, 136, 162], [6, 26, 54, 82, 110, 138, 166], [6, 30, 58, 86, 114, 142, 170]]

/-- The version information values `VI(v)`, version 7 first (44_matrix.md R240). -/
def versionInfoRows : List Nat :=
  [0x07C94, 0x085BC, 0x09A99, 0x0A4D3, 0x0BBF6, 0x0C762, 0x0D847, 0x0E60D] ++
  [0x0F928, 0x10B78, 0x1145D, 0x12A17, 0x13532, 0x149A6, 0x15683, 0x168C9] ++
  [0x177EC, 0x18EC4, 0x191E1, 0x1AFAB, 0x1B08E, 0x1CC1A, 0x1D33F, 0x1ED75] ++
  [0x1F250, 0x209D5, 0x216F0, 0x228BA, 0x2379F, 0x24B0B, 0x2542E, 0x26A64] ++
  [0x27541, 0x28C69]

/-- The format information values `FI(e, p)`, one line per level L, M, Q, H, mask 0 first (44_matrix.md R242). -/
def formatInfoRows : List (List Nat) :=
  [[0x77C4, 0x72F3, 0x7DAA, 0x789D, 0x662F, 0x6318, 0x6C41, 0x6976],
    [0x5412, 0x5125, 0x5E7C, 0x5B4B, 0x45F9, 0x40CE, 0x4F97, 0x4AA0],
    [0x355F, 0x3068, 0x3F31, 0x3A06, 0x24B4, 0x2183, 0x2EDA, 0x2BED],
    [0x1689, 0x13BE, 0x1CE7, 0x19D0, 0x0762, 0x0255, 0x0D0C, 0x083B]]

/-- `AP(v)` (44_matrix.md R236). -/
def alignmentAt (v : Nat) : List Nat := alignmentRows.getD (v - 1) []

/-- `VI(v)`, for 7 <= v <= 40 (44_matrix.md R240). -/
def versionInfo (v : Nat) : Nat := versionInfoRows.getD (v - 7) 0

/-- `FI(e, p)` (44_matrix.md R242). -/
def formatInfo (e : Ecc) (p : Nat) : Nat := (formatInfoRows.getD e.code []).getD p 0

end Sys2Proof.Machine
end

