-- ==== Sys2Proof/Machine/Galois.lean ====
section
/-! DEFINITION. The field GF(256) and its polynomials (41_gf.md R140 to R150). -/

namespace Sys2Proof.Machine

/-- Field multiplication (41_gf.md R143). -/
def gfmul (a b : Byte) : Byte :=
  if a = 0 ∨ b = 0 then 0 else expAt ((logAt a + logAt b) % 255)

/-- The inverse of a nonzero element (41_gf.md R143). -/
def gfinv (b : Byte) : Byte := expAt ((255 - logAt b) % 255)

/-- Remove leading zero coefficients (41_gf.md R148). -/
def normalize (p : Poly) : Poly := p.dropWhile (· == 0)

/-- A normalised polynomial: empty, or with a nonzero leading coefficient (41_gf.md R148). -/
abbrev Poly.Normalised (p : Poly) : Prop := p.head? ≠ some 0

/-- XOR the list `ps` into `rs` from position `i` on: `R[i+j] <- R[i+j] ^ ps[j]` (the inner loops of 41_gf.md R149
and R150). Positions past the end of `rs` are dropped; no rule writes one. -/
def xorInto : Nat → List Byte → List Byte → List Byte
  | _, _, [] => []
  | i + 1, ps, r :: rs => r :: xorInto i ps rs
  | 0, [], rs => rs
  | 0, p :: ps, r :: rs => (r ^^^ p) :: xorInto 0 ps rs

/-- The outer loop of 41_gf.md R149: add `A[i] * B`, shifted by `i`, for each coefficient of `A` in turn. -/
def polymulRows (B : Poly) : Nat → Poly → List Byte → List Byte
  | _, [], R => R
  | i, a :: as, R => polymulRows B (i + 1) as (xorInto i (B.map (gfmul a)) R)

/-- Product (41_gf.md R149). -/
def polymul (A B : Poly) : Poly :=
  if A.length = 0 ∨ B.length = 0 then []
  else polymulRows B 0 A (List.replicate (A.length + B.length - 1) 0)

/-- One pass of the loop of 41_gf.md R150: clear `R[0]` by a multiple of `B`, then normalise. -/
def polymodPass (B R : Poly) : Poly :=
  let f := gfmul (R.headD 0) (gfinv (B.headD 0))
  normalize (xorInto 0 (B.map fun b => gfmul b f) R)

/-- The loop of 41_gf.md R150. Each pass shortens `R`, so `fuel` = the length of `A` is enough. -/
def polymodLoop (B : Poly) : Nat → Poly → Poly
  | 0, R => R
  | fuel + 1, R => if B.length ≤ R.length then polymodLoop B fuel (polymodPass B R) else R

/-- Remainder by a nonempty divisor (41_gf.md R150). -/
def polymod (A B : Poly) : Poly := polymodLoop B A.length A

end Sys2Proof.Machine
end

