-- ==== Sys2Proof/Machine/ReedSolomon.lean ====
section
/-! DEFINITION. Generator polynomial, EC codewords and syndromes (42_rs.md R180, R182, R183). -/

namespace Sys2Proof.Machine

/-- `gen(ec)`: the product of `[1, EXP[i]]` over i = 0, ..., ec-1, in that order (42_rs.md R180). -/
def gen : Nat → Poly
  | 0 => [1]
  | ec + 1 => polymul (gen ec) [1, expAt ec]

/-- `ecwords(D, ec)`: exactly `ec` codewords, leading zeros restored (42_rs.md R182). -/
def ecwords (D : List Byte) (ec : Nat) : List Byte :=
  let R := polymod (normalize (D ++ List.replicate ec 0)) (gen ec)
  List.replicate (ec - R.length) 0 ++ R

/-- `syndrome(C, i)`, the XOR over `j` of `gfmul(C[j], EXP[(i * (n-1-j)) mod 255])` (42_rs.md R183); the first
codeword of what is left stands at `x^(length - 1)`. -/
def syndrome : List Byte → Nat → Byte
  | [], _ => 0
  | c :: cs, i => gfmul c (expAt (i * cs.length % 255)) ^^^ syndrome cs i

/-- `syndromes(C, ec)` (42_rs.md R183). -/
def syndromes (C : List Byte) (ec : Nat) : List Byte := (List.range ec).map (syndrome C)

end Sys2Proof.Machine
end

