-- ==== Sys2Proof/Machine/Blocks.lean ====
section
/-! DEFINITION. The block split and the interleaved sequence (43_blocks.md R203 to R205). -/

namespace Sys2Proof.Machine

/-- `blocks = b1 + b2` (43_blocks.md R200). -/
def BlockParams.blocks (P : BlockParams) : Nat := P.b1 + P.b2

/-- `len(k)` (43_blocks.md R203). -/
def BlockParams.len (P : BlockParams) (k : Nat) : Nat := if k < P.b1 then P.d1 else P.d2

/-- `off(k)` (43_blocks.md R203). -/
def BlockParams.off (P : BlockParams) (k : Nat) : Nat :=
  if k < P.b1 then k * P.d1 else P.b1 * P.d1 + (k - P.b1) * P.d2

/-- `block(k)`: `len(k)` data codewords from `off(k)` on (43_blocks.md R203). -/
def block (P : BlockParams) (D : List Byte) (k : Nat) : List Byte := (D.drop (P.off k)).take (P.len k)

/-- `d_max` (43_blocks.md R205). -/
def BlockParams.dMax (P : BlockParams) : Nat := if P.b2 > 0 then P.d2 else P.d1

/-- One half of the loop of 43_blocks.md R205: for x in 0..n-1, codeword `x` of every list that has it. -/
def emit (lists : List (List Byte)) (n : Nat) : List Byte :=
  (List.range n).flatMap fun x => lists.filterMap fun l => l[x]?

/-- The interleaved codeword sequence `IL` (43_blocks.md R205) of the data codewords `D`. -/
def interleaved (P : BlockParams) (D : List Byte) : List Byte :=
  let bs := (List.range P.blocks).map (block P D)
  emit bs P.dMax ++ emit (bs.map fun b => ecwords b P.ec) P.ec

end Sys2Proof.Machine
end

