-- ==== Sys2Proof/Machine/Operands.lean ====
section
/-! DEFINITION. How a command reads its operands and makes its checks (30_encoding.md R114, R117;
60_exceptions.md R325, R326). -/

namespace Sys2Proof.Machine

/-- `ARG0.START` (10_state.md R38). -/
def State.start (s : State) : Nat := s.arg0.toNat

/-- `ARG1.COUNT` (10_state.md R39). -/
def State.count (s : State) : Nat := s.arg1.toNat

/-- `MemRead(S, i)` of the memory the `SRC` field selects (30_encoding.md R114). -/
def State.readSrc (s : State) (src : Src) (i : Nat) : Byte :=
  match src with
  | .data => s.readDataEntry i
  | .cw => s.readCw i

/-- `COUNT` entries from index `START` of the memory `src` (30_encoding.md R114). -/
def State.stream (s : State) (src : Src) : List Byte :=
  (List.range s.count).map fun j => s.readSrc src (s.start + j)

/-- The first `n` entries of a memory, as `DATA[0..TDATA-1]` or `CW[0..TCW-1]`. -/
def State.prefixOf (s : State) (src : Src) (n : Nat) : List Byte := (List.range n).map fun i => s.readSrc src i

/-- `START + COUNT > 4096` raises `E_RANGE` (60_exceptions.md R325). -/
def State.checkRange (s : State) : Except CmdErr Unit :=
  if s.start + s.count > Config.memEntries then
    .error { code := .range, info := wordOf (s.start + s.count) }
  else .ok ()

/-- `CFG_VERSION` as a number (10_state.md R40). -/
def State.version (s : State) : Nat := s.cfgVersion.toNat

/-- The error-correction level of `CFG_ECC` (10_state.md R41). -/
def State.level (s : State) : Ecc := .ofCode s.cfgEcc

/-- `CFG_VERSION` not in 1..40 raises `E_INVALID_OPTION`; else the block parameters `table(v, e)`
(43_blocks.md R206, 60_exceptions.md R325). -/
def State.checkConfig (s : State) : Except CmdErr BlockParams :=
  if 1 ≤ s.version ∧ s.version ≤ 40 then .ok (blockTable s.version s.level)
  else .error { code := .invalidOption, info := s.cfgVersion.setWidth 32 }

/-- `DLEN != TDATA` raises `E_CW_COUNT` with `(TDATA << 16) | DLEN` (43_blocks.md R207). -/
def State.checkCount (s : State) (P : BlockParams) : Except CmdErr Unit :=
  if s.dlen.toNat = P.tdata then .ok ()
  else .error { code := .cwCount, info := wordOf P.tdata <<< 16 ||| s.dlen.setWidth 32 }

/-- The block parameters as register values (10_state.md R46). -/
def BlockParams.regs (P : BlockParams) : Blk :=
  { b1 := wordOf P.b1, d1 := wordOf P.d1, b2 := wordOf P.b2, d2 := wordOf P.d2, ec := wordOf P.ec,
    tdata := wordOf P.tdata, tcw := wordOf P.tcw, rem := wordOf P.rem }

end Sys2Proof.Machine
end

