-- ==== Sys2Proof/Machine/BlockCommands.lean ====
section
/-! DEFINITION. The block commands (43_blocks.md R206, R207). -/

namespace Sys2Proof.Machine

/-- The check and pseudocode of `BLK_CFG` (43_blocks.md R206). -/
def blkCfgBody (s : State) : Except CmdErr State := do
  let P ← s.checkConfig
  return s.writeBlk P.regs

/-- `BLK_CFG` (43_blocks.md R206). -/
def execBlkCfg (s : State) : Host.Outcome State Fault Refusal := finish s (blkCfgBody s)

/-- The interleaved sequence of `DATA[0..TDATA-1]` (43_blocks.md R205, R207). -/
def State.interleavedData (s : State) (P : BlockParams) : List Byte := interleaved P (s.prefixOf .data P.tdata)

/-- The checks and pseudocode of `INTERLEAVE` (43_blocks.md R207). -/
def interleaveBody (s : State) : Except CmdErr State := do
  let P ← s.checkConfig
  s.checkCount P
  return (s.writeCwRun (s.interleavedData P)).writeBlk P.regs

/-- `INTERLEAVE` (43_blocks.md R207). -/
def execInterleave (s : State) : Host.Outcome State Fault Refusal := finish s (interleaveBody s)

end Sys2Proof.Machine
end

