-- ==== Sys2Proof/Machine/Matrix.lean ====
section
/-! DEFINITION. The build procedure of a module matrix (44_matrix.md R230 to R248). -/

namespace Sys2Proof.Machine

/-- `N = 4*v + 17` (44_matrix.md R230). -/
def moduleCount (v : Nat) : Nat := 4 * v + 17

/-- The code of a module type (10_state.md R59). -/
def ModuleType.code : ModuleType → Nat
  | .empty => 0
  | .data => 1
  | .finder => 2
  | .separator => 3
  | .alignment => 4
  | .timing => 5
  | .format => 6
  | .version => 7
  | .darkModule => 8
  | .quietZone => 9

/-- A cell as `clear` leaves it: `EMPTY`, light (44_matrix.md R233). -/
def emptyCell : Cell := { type := .empty, dark := false }

/-- `M[y][x]` (44_matrix.md R231); cells outside the matrix read as empty, and no rule uses one. -/
def Grid.at (g : Grid) (x y : Nat) : Cell := (g.getD y []).getD x emptyCell

/-- `M[y][x] <- c` (44_matrix.md R231). -/
def Grid.store (g : Grid) (x y : Nat) (c : Cell) : Grid := g.modify y fun row => row.set x c

/-- One call of `put` (44_matrix.md R232): where, and what. -/
structure Put where
  x : Nat
  y : Nat
  type : ModuleType
  dark : Bool
  deriving DecidableEq, Repr

/-- `put(x, y, t, d)`: write only a cell that is still `EMPTY` (44_matrix.md R232). -/
def Grid.put (g : Grid) (p : Put) : Grid :=
  if (g.at p.x p.y).type = .empty then g.store p.x p.y { type := p.type, dark := p.dark } else g

/-- A sequence of puts, in order. -/
def Grid.putAll (g : Grid) (ps : List Put) : Grid := ps.foldl Grid.put g

/-- Clear (44_matrix.md R233): `N x N` cells, all `EMPTY`, light. -/
def clearGrid (n : Nat) : Grid := List.replicate n (List.replicate n emptyCell)

/-- The puts of one 7x7 finder (44_matrix.md R234). -/
def finderAt (ox oy : Nat) : List Put :=
  (List.range 7).flatMap fun dx => (List.range 7).map fun dy =>
    { x := ox + dx, y := oy + dy, type := .finder,
      dark := dx == 0 || dx == 6 || dy == 0 || dy == 6 || (2 ≤ dx && dx ≤ 4 && 2 ≤ dy && dy ≤ 4) }

/-- Step 1, the three finders (44_matrix.md R234). -/
def finderPuts (n : Nat) : List Put := finderAt 0 0 ++ finderAt (n - 7) 0 ++ finderAt 0 (n - 7)

/-- A light separator cell. -/
def separatorAt (x y : Nat) : Put := { x := x, y := y, type := .separator, dark := false }

/-- Step 2, the separators (44_matrix.md R235). -/
def separatorPuts (n : Nat) : List Put :=
  (List.range 8).flatMap fun i =>
    [separatorAt 7 i, separatorAt i 7,
     separatorAt (n - 8) i, separatorAt (n - 1 - i) 7,
     separatorAt 7 (n - 1 - i), separatorAt i (n - 8)]

/-- The 5x5 pattern centred at `(cx, cy)`: `dark` where `max(|dx|, |dy|) != 1` (44_matrix.md R237). The offsets -2..2 are
written as `i - 2` for i = 0..4. -/
def alignmentPuts (cx cy : Nat) : List Put :=
  (List.range 5).flatMap fun i => (List.range 5).map fun j =>
    { x := cx + j - 2, y := cy + i - 2, type := .alignment,
      dark := max ((j : Int) - 2).natAbs ((i : Int) - 2).natAbs != 1 }

/-- One centre of step 3: skipped whole when it is already occupied (44_matrix.md R237). -/
def Grid.placeAlignment (g : Grid) (c : Nat × Nat) : Grid :=
  if (g.at c.1 c.2).type = .empty then g.putAll (alignmentPuts c.1 c.2) else g

/-- The centres of step 3 as `(cx, cy)`: each `cy` and, inside it, each `cx`, in list order (44_matrix.md R237). -/
def alignmentCentres (v : Nat) : List (Nat × Nat) :=
  (alignmentAt v).flatMap fun cy => (alignmentAt v).map fun cx => (cx, cy)

/-- Step 3, the alignment patterns (44_matrix.md R237). -/
def Grid.placeAlignments (g : Grid) (v : Nat) : Grid := (alignmentCentres v).foldl Grid.placeAlignment g

/-- Step 4, the timing patterns, for i = 8..N-9 (44_matrix.md R238). -/
def timingPuts (n : Nat) : List Put :=
  (List.range' 8 (n - 16)).flatMap fun i =>
    [{ x := 6, y := i, type := .timing, dark := i % 2 == 0 },
     { x := i, y := 6, type := .timing, dark := i % 2 == 0 }]

/-- Step 5, the dark module (44_matrix.md R239). -/
def darkModulePut (v : Nat) : Put := { x := 8, y := 4 * v + 9, type := .darkModule, dark := true }

/-- Step 6, the version information, only when `v >= 7` (44_matrix.md R241). -/
def versionPuts (v : Nat) : List Put :=
  if v < 7 then []
  else
    let n := moduleCount v
    (List.range 18).flatMap fun i =>
      let b := (versionInfo v).testBit i
      [{ x := n - 11 + i % 3, y := i / 3, type := .version, dark := b },
       { x := i / 3, y := n - 11 + i % 3, type := .version, dark := b }]

/-- Row of bit `i` of copy A in column 8 (44_matrix.md R243). -/
def formatRowA (n i : Nat) : Nat := if i ≤ 5 then i else if i ≤ 7 then i + 1 else n - 15 + i

/-- Column of bit `i` of copy B in row 8 (44_matrix.md R243). -/
def formatColB (n i : Nat) : Nat := if i ≤ 7 then n - 1 - i else if i = 8 then 7 else 14 - i

/-- Step 7, the format information (44_matrix.md R243). -/
def formatPuts (n : Nat) (e : Ecc) (p : Nat) : List Put :=
  (List.range 15).flatMap fun i =>
    let b := (formatInfo e p).testBit i
    [{ x := 8, y := formatRowA n i, type := .format, dark := b },
     { x := formatColB n i, y := 8, type := .format, dark := b }]

/-- The matrix before data mapping: clear, then steps 1 to 7 in order (44_matrix.md R232). -/
def functionGrid (v : Nat) (e : Ecc) (p : Nat) : Grid :=
  let n := moduleCount v
  let g1 := (clearGrid n).putAll (finderPuts n)
  let g2 := g1.putAll (separatorPuts n)
  let g3 := g2.placeAlignments v
  let g4 := g3.putAll (timingPuts n)
  let g5 := g4.put (darkModulePut v)
  let g6 := g5.putAll (versionPuts v)
  g6.putAll (formatPuts n e p)

/-! ## Data mapping and masking (44_matrix.md R244 to R248) -/

/-- The formula `g(p, x, y)` (44_matrix.md R248). -/
def maskFormula (p x y : Nat) : Nat :=
  let a := x + y
  let m := x * y
  match p with
  | 0 => a % 2
  | 1 => y % 2
  | 2 => x % 3
  | 3 => a % 3
  | 4 => (y / 2 + x / 3) % 2
  | 5 => m % 2 + m % 3
  | 6 => (m % 2 + m % 3) % 2
  | _ => (m % 3 + a % 2) % 2

/-- `maskcond(p, x, y)`, the formula is 0 (44_matrix.md R248, 90_conflicts.md C5). -/
def maskcond (p x y : Nat) : Bool := maskFormula p x y == 0

/-- The bits of a codeword, most significant first (44_matrix.md R244). -/
def byteBits (b : Byte) : List Bool := (List.range 8).map fun i => b.getLsbD (7 - i)

/-- The codeword sequence as a bit stream (44_matrix.md R244). -/
def bitStream (cws : List Byte) : List Bool := cws.flatMap byteBits

/-- The cells of one column pair, the right column first in each row; upward is from row N-1 to row 0
(44_matrix.md R245). -/
def columnPair (n col : Nat) (up : Bool) : List (Nat × Nat) :=
  (if up then (List.range n).reverse else List.range n).flatMap fun y => [(col, y), (col - 1, y)]

/-- The loop of 44_matrix.md R245 over `col` and `up`. Column 0 ends it; `fuel` bounds the number of pairs. -/
def zigzagFrom (n : Nat) : Nat → Nat → Bool → List (Nat × Nat)
  | 0, _, _ => []
  | fuel + 1, col, up =>
    if col = 0 then []
    else
      let c := if col = 6 then 5 else col
      columnPair n c up ++ zigzagFrom n fuel (c - 2) (!up)

/-- The traversal order of 44_matrix.md R245, from the bottom-right corner upward. -/
def zigzag (n : Nat) : List (Nat × Nat) := zigzagFrom n n (n - 1) true

/-- Step 8: each cell still `EMPTY`, in traversal order, takes the next bit XORed with the mask condition (R246); when
the bits are used up, a remainder cell is light, or takes the mask value under `P_REMAINDER_MASKED` (R247). -/
def mapData (pol : Policy) (p : Nat) : List (Nat × Nat) → List Bool → Grid → Grid
  | [], _, g => g
  | c :: cs, bits, g =>
    if (g.at c.1 c.2).type = .empty then
      match bits with
      | b :: bs => mapData pol p cs bs (g.store c.1 c.2 { type := .data, dark := b ^^ maskcond p c.1 c.2 })
      | [] => mapData pol p cs [] (g.store c.1 c.2 { type := .data, dark := pol.remainderMasked && maskcond p c.1 c.2 })
    else mapData pol p cs bits g

/-- `build(v, e, p, CWS)` (44_matrix.md R232). -/
def build (pol : Policy) (v : Nat) (e : Ecc) (p : Nat) (cws : List Byte) : Grid :=
  mapData pol p (zigzag (moduleCount v)) (bitStream cws) (functionGrid v e p)

end Sys2Proof.Machine
end

