-- ==== Sys2Proof/Machine/Penalty.lean ====
section
/-! DEFINITION. The four penalty rules and the selection of a mask (45_mask.md R280 to R287). -/

namespace Sys2Proof.Machine

/-- The colours of a matrix, rows first, `true` = dark (45_mask.md R280). -/
abbrev Colours := List (List Bool)

/-- `D(x, y)` for every cell of every type (45_mask.md R280). -/
def Grid.colours (g : Grid) : Colours := g.map fun row => row.map Cell.dark

/-- `D(x, y)` (45_mask.md R280). -/
def Colours.at (d : Colours) (x y : Nat) : Bool := (d.getD y []).getD x false

/-- The cells of an `n x n` matrix as `(x, y)`. -/
def cellsOf (n : Nat) : List (Nat × Nat) := (List.range n).flatMap fun y => (List.range n).map fun x => (x, y)

/-- The nine offsets `(dx + 1, dy + 1)` of a 3x3 neighbourhood. -/
def offsets3 : List (Nat × Nat) := [(0, 0), (1, 0), (2, 0), (0, 1), (1, 1), (2, 1), (0, 2), (1, 2), (2, 2)]

/-- `c(x, y)`: the cells of the 3x3 neighbourhood inside the matrix with the same colour; the centre counts only under
`P_RULE1_SELF` (45_mask.md R281). -/
def sameNeighbours (pol : Policy) (d : Colours) (n x y : Nat) : Nat :=
  offsets3.countP fun o =>
    (pol.rule1Self || o != (1, 1)) &&
    1 ≤ x + o.1 && x + o.1 - 1 < n && 1 ≤ y + o.2 && y + o.2 - 1 < n &&
    d.at (x + o.1 - 1) (y + o.2 - 1) == d.at x y

/-- What one cell adds to `P1`: `3 + c - 5` when `c > 5` (45_mask.md R281). -/
def rule1At (pol : Policy) (d : Colours) (n : Nat) (c : Nat × Nat) : Nat :=
  let k := sameNeighbours pol d n c.1 c.2
  if k > 5 then 3 + k - 5 else 0

/-- `P1` (45_mask.md R281). -/
def penalty1 (pol : Policy) (d : Colours) (n : Nat) : Nat := ((cellsOf n).map (rule1At pol d n)).sum

/-- Whether the 2x2 block with top-left cell `(x, y)` has one colour (45_mask.md R282). -/
def uniform2 (d : Colours) (c : Nat × Nat) : Bool :=
  d.at c.1 c.2 == d.at (c.1 + 1) c.2 && d.at c.1 c.2 == d.at c.1 (c.2 + 1) &&
  d.at c.1 c.2 == d.at (c.1 + 1) (c.2 + 1)

/-- `P2` (45_mask.md R282). -/
def penalty2 (d : Colours) (n : Nat) : Nat := 3 * (cellsOf (n - 1)).countP (uniform2 d)

/-- `Q` (45_mask.md R283). -/
def finderLike : List Bool := [true, false, true, true, true, false, true]

/-- How often `Q` occurs at a start position of a line of colours, every position counted (45_mask.md R283). -/
def occurrences : List Bool → Nat
  | [] => 0
  | b :: bs => (if (b :: bs).take 7 = finderLike then 1 else 0) + occurrences bs

/-- Row `y` of the colours. -/
def rowOf (d : Colours) (n y : Nat) : List Bool := (List.range n).map fun x => d.at x y

/-- Column `x` of the colours. -/
def colOf (d : Colours) (n x : Nat) : List Bool := (List.range n).map fun y => d.at x y

/-- `P3` (45_mask.md R283): rows and columns. -/
def penalty3 (d : Colours) (n : Nat) : Nat :=
  40 * (((List.range n).map fun y => occurrences (rowOf d n y)).sum +
        ((List.range n).map fun x => occurrences (colOf d n x)).sum)

/-- `d`, the number of dark cells (45_mask.md R284). -/
def darkCount (d : Colours) (n : Nat) : Nat := (cellsOf n).countP fun c => d.at c.1 c.2

/-- `R4NUM = 100 * |2*d - N*N|` (45_mask.md R284). -/
def rule4Num (dark n : Nat) : Nat := 100 * (2 * (dark : Int) - (n * n : Nat)).natAbs

/-- What scoring a matrix gives (45_mask.md R281 to R284). -/
structure Score where
  p1 : Nat
  p2 : Nat
  p3 : Nat
  dark : Nat
  r4num : Nat
  deriving DecidableEq, Repr

/-- The five values of an `n x n` matrix of colours (45_mask.md R281 to R284). -/
def score (pol : Policy) (d : Colours) (n : Nat) : Score :=
  let dark := darkCount d n
  { p1 := penalty1 pol d n, p2 := penalty2 d n, p3 := penalty3 d n, dark := dark, r4num := rule4Num dark n }

/-- `P1 + P2 + P3`, the value of `CAND_INT` (10_state.md R51). -/
def Score.intPart (c : Score) : Nat := c.p1 + c.p2 + c.p3

/-- The scaled total `S` (45_mask.md R285). -/
def Score.scaled (c : Score) (n : Nat) : Nat := n * n * c.intPart + c.r4num

/-- The loop of 45_mask.md R286 over the totals that are left, `p` being the first one's index. -/
def selectFrom : Nat → Nat → Nat → List Nat → Nat
  | best, _, _, [] => best
  | best, sBest, p, s :: ss => if s < sBest then selectFrom p s (p + 1) ss else selectFrom best sBest (p + 1) ss

/-- The selected index: a strictly smaller total replaces the best so far (45_mask.md R286). -/
def select : List Nat → Nat
  | [] => 0
  | s :: ss => selectFrom 0 s 1 ss

/-- Under BLANK a format, version or dark module cell is taken as light (45_mask.md R287). -/
def blankInfo (c : Cell) : Cell :=
  if c.type = .format ∨ c.type = .version ∨ c.type = .darkModule then { c with dark := false } else c

/-- The candidate as scored (45_mask.md R287). -/
def scoredGrid (pol : Policy) (g : Grid) : Grid :=
  match pol.candidateInfo with
  | .full => g
  | .blank => g.map fun row => row.map blankInfo

/-- The score of candidate `p` (45_mask.md R287, R289). -/
def candidateScore (pol : Policy) (v : Nat) (e : Ecc) (cws : List Byte) (p : Nat) : Score :=
  score pol (scoredGrid pol (build pol v e p cws)).colours (moduleCount v)

/-- The scores of the eight candidates, p = 0 first (45_mask.md R289). -/
def candidateScores (pol : Policy) (v : Nat) (e : Ecc) (cws : List Byte) : List Score :=
  (List.range 8).map (candidateScore pol v e cws)

end Sys2Proof.Machine
end

