-- ==== Sys2Proof/Machine/MatrixCommands.lean ====
section
/-! DEFINITION. The matrix and mask commands (44_matrix.md R251; 45_mask.md R288, R289). -/

namespace Sys2Proof.Machine

/-- The matrix `build(v, e, p, CW[0..TCW-1])` of the configuration in the registers, with its descriptor registers
(44_matrix.md R251, 45_mask.md R289). -/
def State.builtMtx (s : State) (P : BlockParams) (p : Nat) : Mtx :=
  { valid := true
    n := wordOf (moduleCount s.version)
    version := wordOf s.version
    ecc := s.cfgEcc.setWidth 32
    mask := wordOf p
    cells := build Config.policy s.version s.level p (s.prefixOf .cw P.tcw) }

/-- The check and pseudocode of `MTX_BUILD` (44_matrix.md R251). -/
def mtxBuildBody (mask : Nat) (s : State) : Except CmdErr State := do
  let P ← s.checkConfig
  return (s.writeMtx (s.builtMtx P mask)).writeBlk P.regs

/-- `MTX_BUILD mask` (44_matrix.md R251). -/
def execMtxBuild (mask : Nat) (s : State) : Host.Outcome State Fault Refusal := finish s (mtxBuildBody mask s)

/-- A score as the penalty registers hold it (10_state.md R49). -/
def Score.regs (c : Score) : Pen :=
  { r1 := wordOf c.p1, r2 := wordOf c.p2, r3 := wordOf c.p3, dark := wordOf c.dark, r4num := wordOf c.r4num }

/-- The check and pseudocode of `MASK_SCORE`: the current matrix, with `N = MTX_N` (45_mask.md R288). -/
def maskScoreBody (s : State) : Except CmdErr State :=
  if s.mtx.valid then .ok (s.writePen (score Config.policy s.mtx.cells.colours s.mtx.n.toNat).regs)
  else .error { code := .noMatrix, info := 0 }

/-- `MASK_SCORE` (45_mask.md R288). -/
def execMaskScore (s : State) : Host.Outcome State Fault Refusal := finish s (maskScoreBody s)

/-- A score of zeros, read where a list of eight scores has none; no rule reads one. -/
def noScore : Score := { p1 := 0, p2 := 0, p3 := 0, dark := 0, r4num := 0 }

/-- Eight values of a list of scores, as registers hold them. -/
def candRegs (f : Score → Nat) (cs : List Score) : Vector Word 8 :=
  let r := fun p => wordOf (f (cs.getD p noScore))
  #v[r 0, r 1, r 2, r 3, r 4, r 5, r 6, r 7]

/-- `MTX_FINAL` with a chosen mask: build, and write `MTX_*`, `SEL_MASK`, `BLK_*` (45_mask.md R289). -/
def State.finalWith (s : State) (P : BlockParams) (best : Nat) : State :=
  ((s.writeMtx (s.builtMtx P best)).writeSelMask (wordOf best)).writeBlk P.regs

/-- The automatic choice: score the eight candidates, select, and write `CAND_*` and `PEN_*` (45_mask.md R289). -/
def State.finalAuto (s : State) (P : BlockParams) : State :=
  let cs := candidateScores Config.policy s.version s.level (s.prefixOf .cw P.tcw)
  let best := select (cs.map fun c => c.scaled (moduleCount s.version))
  ((s.finalWith P best).writeCands (candRegs Score.intPart cs) (candRegs Score.dark cs)).writePen
    (cs.getD best noScore).regs

/-- The pseudocode of `MTX_FINAL` once its check has passed (45_mask.md R289). -/
def State.final (s : State) (P : BlockParams) : State :=
  if s.cfgMask.auto then s.finalAuto P else s.finalWith P s.cfgMask.pat.toNat

/-- The check and pseudocode of `MTX_FINAL` (45_mask.md R289). -/
def mtxFinalBody (s : State) : Except CmdErr State := do
  let P ← s.checkConfig
  return s.final P

/-- `MTX_FINAL` (45_mask.md R289). -/
def execMtxFinal (s : State) : Host.Outcome State Fault Refusal := finish s (mtxFinalBody s)

end Sys2Proof.Machine
end

