-- ==== Sys2Proof/Machine/SequencerCommands.lean ====
section
/-! DEFINITION. `NOP` and `RUN` (46_sequencer.md R310, R311). -/

namespace Sys2Proof.Machine

/-- `NOP` (46_sequencer.md R310): nothing but its completion. -/
def execNop (s : State) : Host.Outcome State Fault Refusal := finish s (.ok s)

/-- The pseudocode of `RUN`: that of `INTERLEAVE`, then that of `MTX_FINAL`, which reads the `CW` just written
(46_sequencer.md R311). -/
def runBody (s : State) : Except CmdErr State := interleaveBody s >>= mtxFinalBody

/-- `RUN` (46_sequencer.md R311). -/
def execRun (s : State) : Host.Outcome State Fault Refusal := finish s (runBody s)

end Sys2Proof.Machine
end

