-- ==== Sys2Proof/Machine/Reset.lean ====
section
/-! DEFINITION. Soft reset, with the writer it may abandon (70_reset_and_hazards.md R362, R367). -/

namespace Sys2Proof.Machine

/-- The commands that write `CW`: `INTERLEAVE` and `RUN` (10_state.md R54, 70_reset_and_hazards.md R367). -/
def Instr.writesCw : Instr → Bool
  | .interleave => true
  | .run => true
  | .nop => false
  | .gfMul _ _ => false
  | .gfExp _ => false
  | .gfLog _ => false
  | .pSetNum _ _ => false
  | .pMul _ _ _ => false
  | .pMod _ _ _ => false
  | .rsGen _ _ => false
  | .rsEnc _ _ => false
  | .rsSyn _ _ => false
  | .blkCfg => false
  | .mtxBuild _ => false
  | .maskScore => false
  | .mtxFinal => false

/-- What the checks of `INTERLEAVE` and `RUN` and their first half would write to `CW[0..TCW-1]`
(43_blocks.md R207, 46_sequencer.md R311). -/
def State.cwToWrite (s : State) : Except CmdErr (List Byte) := do
  let P ← s.checkConfig
  s.checkCount P
  return s.interleavedData P

/-- The `CW` entries, from 0 on, that the command in flight would write. A command that would fail its checks writes none
(60_exceptions.md R324). Log entry 6. -/
def State.pendingCw (s : State) : List Byte :=
  match decode s.cmd with
  | .error _ => []
  | .ok i => if s.status.busy && Instr.writesCw i then (s.cwToWrite).toOption.getD [] else []

/-- Each entry holds "either its old value or the value the command would have written, a draw per entry"
(70_reset_and_hazards.md R367). Log entry 5. -/
def State.abandonedCw (s : State) : List Byte :=
  s.pendingCw.mapIdx fun i new => if Config.abandonTakesNew s.abandons i then new else s.readCw i

/-- Soft reset (70_reset_and_hazards.md R362, R367): every register as after power-on; `DATA` kept; `CW` kept but for the
entries of an abandoned writer. Log entry 11. -/
def State.softReset (s : State) : State :=
  if s.pendingCw = [] then s.resetRegisters
  else { s.resetRegisters with cw := s.cw.writeRun 0 s.abandonedCw, abandons := s.abandons + 1 }

end Sys2Proof.Machine
end

