-- ==== Sys2Proof/Machine/Bus.lean ====
section
/-! DEFINITION. The host bus: the address map, and what a read and a write of each place do (20_memory.md R80 to R98;
10_state.md R31 to R52). -/

namespace Sys2Proof.Machine

/-- The named registers of 10_state.md R31 to R51. -/
inductive Reg where
  | id | ctrl | status | cmd | errInfo | result | arg0 | arg1
  | cfgVersion | cfgEcc | cfgMask | cfgQz | dlen
  | plen (k : PReg)
  | blkB1 | blkD1 | blkB2 | blkD2 | blkEc | blkTdata | blkTcw | blkRem
  | mtxN | mtxVersion | mtxEcc | mtxMask
  | outQz | outSize
  | penR1 | penR2 | penR3 | penDark | penR4num
  | selMask
  | candInt (p : Fin 8)
  | candDark (p : Fin 8)
  deriving DecidableEq, Repr

/-- The control, status and operand registers (10_state.md R31 to R39). -/
def regMapControl : List (Nat × Reg) :=
  [(0x000, .id), (0x004, .ctrl), (0x008, .status), (0x00C, .cmd), (0x010, .errInfo), (0x014, .result), (0x018, .arg0),
   (0x01C, .arg1)]

/-- The configuration registers (10_state.md R40 to R44). -/
def regMapConfig : List (Nat × Reg) :=
  [(0x020, .cfgVersion), (0x024, .cfgEcc), (0x028, .cfgMask), (0x02C, .cfgQz), (0x030, .dlen)]

/-- The polynomial length registers (10_state.md R45). -/
def regMapPlen : List (Nat × Reg) := [(0x040, .plen .P0), (0x044, .plen .P1), (0x048, .plen .P2), (0x04C, .plen .P3)]

/-- The block parameter registers (10_state.md R46). -/
def regMapBlk : List (Nat × Reg) :=
  [(0x060, .blkB1), (0x064, .blkD1), (0x068, .blkB2), (0x06C, .blkD2), (0x070, .blkEc), (0x074, .blkTdata),
   (0x078, .blkTcw), (0x07C, .blkRem)]

/-- The matrix and output view registers (10_state.md R47, R48). -/
def regMapMtx : List (Nat × Reg) :=
  [(0x080, .mtxN), (0x084, .mtxVersion), (0x088, .mtxEcc), (0x08C, .mtxMask), (0x090, .outQz), (0x094, .outSize)]

/-- The penalty registers and `SEL_MASK` (10_state.md R49, R50). -/
def regMapPen : List (Nat × Reg) :=
  [(0x0A0, .penR1), (0x0A4, .penR2), (0x0A8, .penR3), (0x0AC, .penDark), (0x0B0, .penR4num), (0x0B4, .selMask)]

/-- The candidate registers (10_state.md R51). -/
def regMapCand : List (Nat × Reg) :=
  [(0x0C0, .candInt 0), (0x0C4, .candInt 1), (0x0C8, .candInt 2), (0x0CC, .candInt 3), (0x0D0, .candInt 4),
   (0x0D4, .candInt 5), (0x0D8, .candInt 6), (0x0DC, .candInt 7), (0x0E0, .candDark 0), (0x0E4, .candDark 1),
   (0x0E8, .candDark 2), (0x0EC, .candDark 3), (0x0F0, .candDark 4), (0x0F4, .candDark 5), (0x0F8, .candDark 6),
   (0x0FC, .candDark 7)]

/-- The registers by byte offset (10_state.md R31 to R51). -/
def regMap : List (Nat × Reg) :=
  regMapControl ++ regMapConfig ++ regMapPlen ++ regMapBlk ++ regMapMtx ++ regMapPen ++ regMapCand

/-- The memory windows of 20_memory.md R84, each with the entry an address selects. -/
inductive Window where
  | exp (i : Nat)
  | log (i : Nat)
  | poly (k : PReg) (i : Nat)
  | eco (i : Nat)
  | syn (i : Nat)
  | data (i : Nat)
  | cw (i : Nat)
  | raw (x y : Nat)
  | out (x y : Nat)
  deriving DecidableEq, Repr

/-- What a bus address names. -/
inductive Location where
  /-- `a[1:0] != 0` (20_memory.md R83) -/
  | misaligned
  /-- nothing (20_memory.md R84, R85; 10_state.md R52) -/
  | unmapped
  | reg (r : Reg)
  | window (w : Window)
  deriving DecidableEq, Repr

/-- The polynomial register of the windows at 0x1000, 0x1400, 0x1800, 0x1C00 (20_memory.md R84). -/
def PReg.ofNumber (n : Nat) : PReg :=
  match n with
  | 0 => .P0
  | 1 => .P1
  | 2 => .P2
  | _ => .P3

/-- The aligned address `n` (20_memory.md R84). -/
def locateAligned (n : Nat) : Location :=
  if n < 0x000400 then
    match regMap.lookup n with
    | some r => .reg r
    | none => .unmapped
  else if n < 0x000800 then .window (.exp ((n - 0x000400) / 4))
  else if n < 0x000C00 then .window (.log ((n - 0x000800) / 4))
  else if n < 0x001000 then .unmapped
  else if n < 0x002000 then .window (.poly (PReg.ofNumber ((n - 0x001000) / 0x400)) ((n - 0x001000) % 0x400 / 4))
  else if n < 0x002400 then .window (.eco ((n - 0x002000) / 4))
  else if n < 0x002800 then .window (.syn ((n - 0x002400) / 4))
  else if n < 0x004000 then .unmapped
  else if n < 0x008000 then .window (.data ((n - 0x004000) / 4))
  else if n < 0x00C000 then .window (.cw ((n - 0x008000) / 4))
  else if n < 0x040000 then .unmapped
  else if n < 0x080000 then .window (.raw ((n - 0x040000) / 4 % 256) ((n - 0x040000) / 4 / 256))
  else if n < 0x100000 then .unmapped
  else .window (.out ((n - 0x100000) / 4 % 512) ((n - 0x100000) / 4 / 512))

/-- What an address names (20_memory.md R83, R84). -/
def locate (a : BusAddr) : Location := if a.toNat % 4 ≠ 0 then .misaligned else locateAligned a.toNat

/-! ## Reads -/

/-- `N = MTX_N`. -/
def State.mtxN (s : State) : Nat := s.mtx.n.toNat

/-- The border the output view applies, `OUT_QZ` (20_memory.md R92); 0 while no matrix is valid (10_state.md R48). -/
def State.outQz (s : State) : Nat :=
  if s.mtx.valid && s.cfgQz.en then min s.cfgQz.size.toNat (s.mtxN / 2) else 0

/-- The side of the output view, `OUT_SIZE` (20_memory.md R92); 0 while no matrix is valid (10_state.md R48). -/
def State.outSize (s : State) : Nat := if s.mtx.valid then s.mtxN + 2 * s.outQz else 0

/-- `(type << 8) | dark` (20_memory.md R91). -/
def cellWord (c : Cell) : Word := 0#20 ++ BitVec.ofNat 4 c.type.code ++ 0#7 ++ bit c.dark

/-- The raw view word of `(x, y)` (20_memory.md R91). -/
def State.rawWord (s : State) (x y : Nat) : Word :=
  if s.mtx.valid ∧ x < s.mtxN ∧ y < s.mtxN then cellWord (s.mtx.cells.at x y) else 0

/-- The output view word of `(X, Y)` (20_memory.md R92). -/
def State.outWord (s : State) (x y : Nat) : Word :=
  let q := s.outQz
  let n := s.mtxN
  if ¬ s.mtx.valid ∨ x ≥ s.outSize ∨ y ≥ s.outSize then 0
  else if q ≤ x ∧ x < q + n ∧ q ≤ y ∧ y < q + n then s.rawWord (x - q) (y - q)
  else cellWord { type := .quietZone, dark := false }

/-- What a read of a register returns (10_state.md R31 to R51). A descriptor register reads 0 while no matrix is valid
(R47). DEDUCED: `CTRL` reads its current bits also while `BUSY`, so what a write to it stored meanwhile, as 20_memory.md R95
says of every location; R94 excepts only `STATUS` from reading the value held at acceptance. Log entry 20. -/
def State.readReg (s : State) : Reg → Word
  | .id => Config.idValue
  | .ctrl => s.ctrlWord
  | .status => s.statusWord
  | .cmd => s.cmd
  | .errInfo => s.errInfo
  | .result => s.result
  | .arg0 => s.arg0.setWidth 32
  | .arg1 => s.arg1.setWidth 32
  | .cfgVersion => s.cfgVersion.setWidth 32
  | .cfgEcc => s.cfgEcc.setWidth 32
  | .cfgMask => 0#28 ++ bit s.cfgMask.auto ++ s.cfgMask.pat
  | .cfgQz => 0#23 ++ bit s.cfgQz.en ++ s.cfgQz.size
  | .dlen => s.dlen.setWidth 32
  | .plen k => wordOf (s.plen k)
  | .blkB1 => s.blk.b1
  | .blkD1 => s.blk.d1
  | .blkB2 => s.blk.b2
  | .blkD2 => s.blk.d2
  | .blkEc => s.blk.ec
  | .blkTdata => s.blk.tdata
  | .blkTcw => s.blk.tcw
  | .blkRem => s.blk.rem
  | .mtxN => if s.mtx.valid then s.mtx.n else 0
  | .mtxVersion => if s.mtx.valid then s.mtx.version else 0
  | .mtxEcc => if s.mtx.valid then s.mtx.ecc else 0
  | .mtxMask => if s.mtx.valid then s.mtx.mask else 0
  | .outQz => wordOf s.outQz
  | .outSize => wordOf s.outSize
  | .penR1 => s.pen.r1
  | .penR2 => s.pen.r2
  | .penR3 => s.pen.r3
  | .penDark => s.pen.dark
  | .penR4num => s.pen.r4num
  | .selMask => s.selMask
  | .candInt p => s.candInt[p]
  | .candDark p => s.candDark[p]

/-- What a read of an unlocked window returns (20_memory.md R86, R88 to R92). -/
def State.readWindow (s : State) : Window → Word
  | .exp i => zext32 (expAt i)
  | .log i => if i = 0 then 0xFFFFFFFF#32 else wordOf (logAt (BitVec.ofNat 8 i))
  | .poly k i => zext32 ((s.readPoly k).getD i 0)
  | .eco i => zext32 (s.eco.getD i 0)
  | .syn i => zext32 (s.syn.getD i 0)
  | .data i => zext32 (s.readDataEntry i)
  | .cw i => zext32 (s.readCw i)
  | .raw x y => s.rawWord x y
  | .out x y => s.outWord x y

/-- The word at a location, or none where the read is an access error: misaligned (R83), unmapped (R85), or a window while
`BUSY` (R93). -/
def State.readLocation (s : State) : Location → Option Word
  | .misaligned => none
  | .unmapped => none
  | .reg r => some (s.readReg r)
  | .window w => if s.status.busy then none else some (s.readWindow w)

/-- `BusRead(a)` (20_memory.md R80): the word goes to the host. An erroneous read returns 0 and sets `ACC_ERR`
(R83, R85, R93); no read has another effect (R98). -/
def State.busRead (s : State) (a : BusAddr) : State :=
  match s.readLocation (locate a) with
  | some v => { s with readData := v }
  | none => { s.accessError with readData := 0 }

/-! ## Writes -/

/-- A write to `CTRL`: bit 0 resets and the other bits are ignored; else bits 2:1 are stored (10_state.md R32). -/
def State.writeCtrl (s : State) (v : Word) : State :=
  if v.getLsbD 0 then s.softReset
  else { s with ctrl := { ieDone := v.getLsbD 1, ieErr := v.getLsbD 2 } }

/-- A write to `CMD`: accepted when `BUSY = 0` and `ERR = 0`, else ignored (60_exceptions.md R320, R321). -/
def State.writeCmd (s : State) (v : Word) : State :=
  if s.status.busy ∨ s.status.err then s.ignoreCmd else s.accept v

/-- Store a read-write register other than `CTRL`, `STATUS`, `CMD`; reserved bits are dropped (10_state.md R38 to R44,
R66). None for the read-only registers. -/
def State.storeReg (s : State) (v : Word) : Reg → Option State
  | .arg0 => some { s with arg0 := v.setWidth 12 }
  | .arg1 => some { s with arg1 := v.setWidth 13 }
  | .cfgVersion => some { s with cfgVersion := v.setWidth 6 }
  | .cfgEcc => some { s with cfgEcc := v.setWidth 2 }
  | .cfgMask => some { s with cfgMask := { auto := v.getLsbD 3, pat := v.setWidth 3 } }
  | .cfgQz => some { s with cfgQz := { en := v.getLsbD 8, size := v.setWidth 8 } }
  | .dlen => some { s with dlen := v.setWidth 13 }
  | .id | .ctrl | .status | .cmd | .errInfo | .result | .plen _ => none
  | .blkB1 | .blkD1 | .blkB2 | .blkD2 | .blkEc | .blkTdata | .blkTcw | .blkRem => none
  | .mtxN | .mtxVersion | .mtxEcc | .mtxMask | .outQz | .outSize => none
  | .penR1 | .penR2 | .penR3 | .penDark | .penR4num | .selMask | .candInt _ | .candDark _ => none

/-- A write of a register. `CTRL`, `STATUS` and `CMD` are honoured whatever `BUSY` is; any other register is written only
while `BUSY` is 0, and a read-only one never: else `ACC_ERR` (20_memory.md R87, R94). -/
def State.writeReg (s : State) (v : Word) (r : Reg) : State :=
  if r = .ctrl then s.writeCtrl v
  else if r = .status then s.writeStatus v
  else if r = .cmd then s.writeCmd v
  else if s.status.busy then s.accessError
  else (s.storeReg v r).getD s.accessError

/-- A write of an unlocked window: only `DATA` and `CW` are writable, `v[7:0]` (20_memory.md R86, R87). -/
def State.writeWindow (s : State) (v : Word) : Window → State
  | .data i => { s with data := s.data.write i (v.setWidth 8) }
  | .cw i => { s with cw := s.cw.write i (v.setWidth 8) }
  | .exp _ | .log _ | .poly _ _ | .eco _ | .syn _ | .raw _ _ | .out _ _ => s.accessError

/-- `BusWrite(a, v)` (20_memory.md R80): misaligned and unmapped writes are ignored (R83, R85), and so is any write of a
window while `BUSY` (R93), each setting `ACC_ERR`. -/
def State.busWrite (s : State) (a : BusAddr) (v : Word) : State :=
  match locate a with
  | .misaligned => s.accessError
  | .unmapped => s.accessError
  | .reg r => s.writeReg v r
  | .window w => if s.status.busy then s.accessError else s.writeWindow v w

end Sys2Proof.Machine
end

