-- ==== Sys2Proof/Machine/GfCommands.lean ====
section
/-! DEFINITION. The GF scalar and GF polynomial commands (41_gf.md R151 to R157). Each meaning is the completion step
of its command (60_exceptions.md R322). -/

namespace Sys2Proof.Machine

/-- `GF_MUL a, b` (41_gf.md R151). -/
def execGfMul (a b : Byte) (s : State) : Host.Outcome State Fault Refusal :=
  finish s (.ok (s.writeResult (zext32 (gfmul a b))))

/-- `GF_EXP a` (41_gf.md R152). -/
def execGfExp (a : Byte) (s : State) : Host.Outcome State Fault Refusal :=
  finish s (.ok (s.writeResult (zext32 (expAt a.toNat))))

/-- The check and pseudocode of `GF_LOG` (41_gf.md R153). -/
def gfLogBody (a : Byte) (s : State) : Except CmdErr State :=
  if a = 0 then .error { code := .logZero, info := 0 } else .ok (s.writeResult (wordOf (logAt a)))

/-- `GF_LOG a` (41_gf.md R153). -/
def execGfLog (a : Byte) (s : State) : Host.Outcome State Fault Refusal := finish s (gfLogBody a s)

/-- `(len(S) = 0) ? [] : S ++ [0] * shift` (41_gf.md R154). -/
def shifted (S : Poly) (shift : Nat) : Poly := if S.length = 0 then [] else S ++ List.replicate shift 0

/-- A result longer than 256 coefficients raises `E_POLY_LEN` with its length (60_exceptions.md R325). -/
def checkPolyLen (len : Nat) : Except CmdErr Unit :=
  if len > Config.polyMax then .error { code := .polyLen, info := wordOf len } else .ok ()

/-- The checks and pseudocode of `PSETNUM` (41_gf.md R154). -/
def pSetNumBody (d : PReg) (shift : Nat) (s : State) : Except CmdErr State := do
  s.checkRange
  let P := shifted (normalize (s.stream .data)) shift
  checkPolyLen P.length
  return s.writePoly d P

/-- `PSETNUM Pd, shift` (41_gf.md R154). -/
def execPSetNum (d : PReg) (shift : Nat) (s : State) : Host.Outcome State Fault Refusal :=
  finish s (pSetNumBody d shift s)

/-- The length the product would have: `la + lb - 1` when both are nonzero (41_gf.md R155). -/
def productLen (A B : Poly) : Nat := if A.length > 0 ∧ B.length > 0 then A.length + B.length - 1 else 0

/-- The check and pseudocode of `PMUL`; both sources are read before `PR[d]` is written (41_gf.md R155, R157). -/
def pMulBody (d a b : PReg) (s : State) : Except CmdErr State := do
  checkPolyLen (productLen (s.readPoly a) (s.readPoly b))
  return s.writePoly d (polymul (s.readPoly a) (s.readPoly b))

/-- `PMUL Pd, Pa, Pb` (41_gf.md R155). -/
def execPMul (d a b : PReg) (s : State) : Host.Outcome State Fault Refusal := finish s (pMulBody d a b s)

/-- The check and pseudocode of `PMOD`; both sources are read before `PR[d]` is written (41_gf.md R156, R157). -/
def pModBody (d a b : PReg) (s : State) : Except CmdErr State :=
  if s.plen b = 0 then .error { code := .divZero, info := 0 }
  else .ok (s.writePoly d (polymod (s.readPoly a) (s.readPoly b)))

/-- `PMOD Pd, Pa, Pb` (41_gf.md R156). -/
def execPMod (d a b : PReg) (s : State) : Host.Outcome State Fault Refusal := finish s (pModBody d a b s)

end Sys2Proof.Machine
end

