-- ==== Sys2Proof/Machine/RsCommands.lean ====
section
/-! DEFINITION. The Reed-Solomon commands (42_rs.md R184 to R186). -/

namespace Sys2Proof.Machine

/-- `RS_GEN Pd, ec` (42_rs.md R184). -/
def execRsGen (d : PReg) (ec : Nat) (s : State) : Host.Outcome State Fault Refusal :=
  finish s (.ok (s.writePoly d (gen ec)))

/-- The check and pseudocode of `RS_ENC` (42_rs.md R185). -/
def rsEncBody (src : Src) (ec : Nat) (s : State) : Except CmdErr State := do
  s.checkRange
  return s.writeEco (ecwords (s.stream src) ec)

/-- `RS_ENC DATA|CW, ec` (42_rs.md R185). -/
def execRsEnc (src : Src) (ec : Nat) (s : State) : Host.Outcome State Fault Refusal := finish s (rsEncBody src ec s)

/-- The check and pseudocode of `RS_SYN` (42_rs.md R186). -/
def rsSynBody (src : Src) (ec : Nat) (s : State) : Except CmdErr State := do
  s.checkRange
  let Y := syndromes (s.stream src) ec
  return (s.writeSyn Y).writeResult (if Y.all (· == 0) then 1 else 0)

/-- `RS_SYN DATA|CW, ec` (42_rs.md R186). -/
def execRsSyn (src : Src) (ec : Nat) (s : State) : Host.Outcome State Fault Refusal := finish s (rsSynBody src ec s)

end Sys2Proof.Machine
end

