-- ==== Sys2Proof/Machine/Dispatch.lean ====
section
/-! DEFINITION. One arm per command: its completion step (60_exceptions.md R322). -/

namespace Sys2Proof.Machine

def exec (i : Instr) (s : State) : Host.Outcome State Fault Refusal :=
  match i with
  | .nop => Sys2Proof.Machine.execNop s
  | .gfMul a b => Sys2Proof.Machine.execGfMul a b s
  | .gfExp a => Sys2Proof.Machine.execGfExp a s
  | .gfLog a => Sys2Proof.Machine.execGfLog a s
  | .pSetNum d shift => Sys2Proof.Machine.execPSetNum d shift s
  | .pMul d a b => Sys2Proof.Machine.execPMul d a b s
  | .pMod d a b => Sys2Proof.Machine.execPMod d a b s
  | .rsGen d ec => Sys2Proof.Machine.execRsGen d ec s
  | .rsEnc src ec => Sys2Proof.Machine.execRsEnc src ec s
  | .rsSyn src ec => Sys2Proof.Machine.execRsSyn src ec s
  | .blkCfg => Sys2Proof.Machine.execBlkCfg s
  | .interleave => Sys2Proof.Machine.execInterleave s
  | .mtxBuild mask => Sys2Proof.Machine.execMtxBuild mask s
  | .maskScore => Sys2Proof.Machine.execMaskScore s
  | .mtxFinal => Sys2Proof.Machine.execMtxFinal s
  | .run => Sys2Proof.Machine.execRun s

end Sys2Proof.Machine
end

