-- ==== Sys2Proof/Machine/Turn.lean ====
section
/-! DEFINITION. The two agents' turns (60_exceptions.md R320): a host transaction, the engine's completion step, and the
platform's reset input. -/

namespace Sys2Proof.Machine

/-- The error a word that is no command completes with, and its `ERRINFO`, the word (60_exceptions.md R325). -/
def decodeErr (e : DecodeError) (w : Word) : CmdErr :=
  match e with
  | .illegalOpc => { code := .illegalOpc, info := w }
  | .reserved => { code := .reserved, info := w }

/-- The completion step of the word in `CMD` (60_exceptions.md R322): decode and check, then the command. -/
def completeCommand (s : State) : Host.Outcome State Fault Refusal :=
  match decode s.cmd with
  | .ok i => exec i s
  | .error e => .next (s.raiseErr (decodeErr e s.cmd))

/-- The engine's turn: a completion step if one is enabled, that is if `BUSY = 1` (60_exceptions.md R320); else it is idle and
keeps all state (R335). -/
def engineTurn (s : State) : Host.Outcome State Fault Refusal :=
  if s.status.busy then completeCommand s else .next s

/-- One move. -/
def takeMove (m : Move) (s : State) : Host.Outcome State Fault Refusal :=
  match m with
  | .busRead a => .next (s.busRead a)
  | .busWrite a v => .next (s.busWrite a v)
  | .engine => engineTurn s
  | .powerOn => .next s.powerOnReset

/-- The machine with a command word accepted and the engine's turn next: what a host write of `w` to an accepting `CMD` leaves
(60_exceptions.md R320, R321), the completion being the very next step. Log entry 7. -/
def State.withCommandDue (s : State) (w : Word) : State :=
  { s.ackErr.accept w with agenda := .engine :: s.agenda }

end Sys2Proof.Machine
end

