-- ==== Sys2Proof/Machine/Step.lean ====
section
/-! DEFINITION. One step of the machine: the next move of the agenda, or, when the host has no more to do, the engine's
turn (60_exceptions.md R320; 70_reset_and_hazards.md R371, R374; log entries 1 and 2). -/

namespace Sys2Proof.Machine

def step (s : State) : Host.Outcome State Fault Refusal :=
  match s.agenda with
  | [] => engineTurn s
  | m :: rest => takeMove m { s with agenda := rest }

/-- `s` with the command word whose `nbits` low bits are `w` accepted and due, so that the very next step completes it.
Log entry 7. -/
def State.withFetchWord (s : State) (nbits w : Nat) : State :=
  s.withCommandDue (BitVec.ofNat 32 (w % 2 ^ nbits))

end Sys2Proof.Machine
end

