-- ==== Sys2Proof/Machine/HostProgram.lean ====
section
/-! DEFINITION. Host programs in the notation of 30_encoding.md R122, as agenda moves, and the host's own addresses
(20_memory.md R81, R84). -/

namespace Sys2Proof.Machine

/-- The host address of an offset: `QRC_BASE + addr` (30_encoding.md R122). DESIGN CHOICE: the spec leaves the width of a host
address open (20_memory.md R81: "a wider host address"); here it is 64 bits, and sums are modulo 2^64. Log entry 9. -/
def hostAddress (a : BusAddr) : BitVec 64 := Config.qrcBase + a.setWidth 64

/-- The offset a host address reaches, 21 bits (20_memory.md R81). DESIGN CHOICE: the 64-bit host address and the difference
modulo 2^64, as in `hostAddress`. Log entry 9. -/
def busOffset (h : BitVec 64) : BusAddr := (h - Config.qrcBase).setWidth 21

/-- The host operations of 30_encoding.md R122. -/
inductive HostOp where
  /-- `wr addr, v` -/
  | wr (a : BusAddr) (v : Word)
  /-- `rd addr` -/
  | rd (a : BusAddr)
  /-- `cmd C`, with `word(C)` -/
  | cmd (w : Word)
  /-- `wait`, with the number of polls that still read `BUSY = 1`, any number (70_reset_and_hazards.md R371) -/
  | wait (polls : Nat)
  /-- `wrmem S, i, b0, b1, ...` -/
  | wrmem (mem : Src) (i : Nat) (bytes : List Byte)
  /-- `clr` -/
  | clr
  deriving DecidableEq, Repr

/-- The offset of `STATUS` (10_state.md R33). -/
def statusOffset : BusAddr := 0x008#21

/-- The offset of `CMD` (10_state.md R35). -/
def cmdOffset : BusAddr := 0x00C#21

/-- The window base of `DATA` or `CW` (20_memory.md R84). -/
def memBase : Src → Nat
  | .data => 0x004000
  | .cw => 0x008000

/-- The moves of a host operation (30_encoding.md R122). `wait` polls, the engine completes, and the last poll reads
`BUSY = 0`. DESIGN CHOICE: the spec leaves open when the engine completes (70_reset_and_hazards.md R371, `LATENCY`, 0 among its
values); here it has its turn inside `wait` only, so after `cmd C; rd X` it completes after the `rd`. An agenda with `.engine`
at another place is another latency of the same program. Log entry 19. -/
def HostOp.moves : HostOp → List Move
  | .wr a v => [.busWrite a v]
  | .rd a => [.busRead a]
  | .cmd w => [.busWrite cmdOffset w]
  | .wait polls => List.replicate polls (.busRead statusOffset) ++ [.engine, .busRead statusOffset]
  | .wrmem mem i bytes =>
    bytes.mapIdx fun j b => .busWrite (BitVec.ofNat 21 (memBase mem + 4 * (i + j))) (zext32 b)
  | .clr => [.busWrite statusOffset 0x1E#32]

/-- The moves of a host program, for the one latency of `HostOp.moves`. Log entry 19. -/
def hostMoves (prog : List HostOp) : List Move := prog.flatMap HostOp.moves

end Sys2Proof.Machine
end

