-- ==== Sys2Proof/Safety.lean ====
section
/-! DEFINITION. What holds of every state the hardware can be in: the terms the statements about runs use. -/

namespace Sys2Proof.Machine

/-- `DATA` and `CW` are in canonical form: entries strictly rising, 0..4095 (10_state.md R53, R54; log entry 14). -/
abbrev State.MemoryOk (s : State) : Prop := s.data.wf ∧ s.cw.wf

/-- Every polynomial register holds a normalised polynomial of at most 256 coefficients (10_state.md R55). -/
abbrev State.PolynomialsOk (s : State) : Prop :=
  ∀ k : Fin 4, Poly.Normalised s.pr[k] ∧ (s.pr[k]).length ≤ Config.polyMax

/-- The status bits: a command in flight is neither done nor failed (60_exceptions.md R320, R321); `DONE` and `ERR` are never
both 1 (R328); without an error `ERRCODE` and `ERRINFO` are 0 (10_state.md R33, R36); with one the code is 1 to 9
(60_exceptions.md R325). -/
abbrev State.StatusOk (s : State) : Prop :=
  (s.status.busy = true → s.status.done = false ∧ s.status.err = false) ∧
  ¬ (s.status.done = true ∧ s.status.err = true) ∧
  (s.status.err = false → s.status.errCode = 0 ∧ s.errInfo = 0) ∧
  (s.status.err = true → 1 ≤ s.status.errCode.toNat ∧ s.status.errCode.toNat ≤ 9)

/-- An `n x n` grid of finished cells: none is `EMPTY` or `QUIET_ZONE` (44_matrix.md R249, 10_state.md R59). -/
abbrev Grid.Finished (g : Grid) (n : Nat) : Prop :=
  g.length = n ∧ ∀ row ∈ g, row.length = n ∧ ∀ c ∈ row, c.type ≠ .empty ∧ c.type ≠ .quietZone

/-- The matrix memory: invalid with its descriptor registers 0 (10_state.md R47), or a finished matrix of the version, level
and mask its registers name (R47, R58). -/
abbrev Mtx.Ok (m : Mtx) : Prop :=
  if m.valid then
    1 ≤ m.version.toNat ∧ m.version.toNat ≤ 40 ∧ m.n.toNat = moduleCount m.version.toNat ∧ m.ecc.toNat < 4 ∧
      m.mask.toNat < 8 ∧ m.cells.Finished m.n.toNat
  else m.n = 0 ∧ m.version = 0 ∧ m.ecc = 0 ∧ m.mask = 0

/-- All of it. -/
abbrev State.Inv (s : State) : Prop := s.MemoryOk ∧ s.PolynomialsOk ∧ s.StatusOk ∧ s.mtx.Ok

/-- A step is safe when it gives a next state; on this core every step is (93_implementation_defined.md part A). -/
def State.StepsSafely (s : State) : Prop := ∃ t, step s = .next t

end Sys2Proof.Machine
end

