-- ==== Sys2Proof/Certificates/Slice0/Obligations.lean ====
section
/-! DEFINITION. The statements for the provers, and the spec's own definitions they compare the machine with. -/

namespace Sys2Proof.Spec

open Sys2Proof.Machine

/-- `STATUS` after a successful completion (60_exceptions.md R322, R323). -/
abbrev doneStatus (st : Status) : Status := { st with done := true, busy := false }

/-- `STATUS` after an error completion (60_exceptions.md R322, R324). -/
abbrev failedStatus (st : Status) (code : Byte) : Status := { st with err := true, errCode := code, busy := false }

/-- The class of `z` times `a`: shift, reduced by `z^8 + z^4 + z^3 + z^2 + 1` (41_gf.md R140). -/
def timesZ (a : Byte) : Byte := (a <<< 1) ^^^ (if a.msb then 0x1D#8 else 0#8)

/-- `z^i` times `a` (41_gf.md R140). -/
def timesZPow : Nat → Byte → Byte
  | 0, a => a
  | i + 1, a => timesZ (timesZPow i a)

/-- The XOR of a list of elements. -/
def xorAll (l : List Byte) : Byte := l.foldl (fun x y => x ^^^ y) 0#8

/-- The product of 41_gf.md R140, as polynomials over GF(2) reduced modulo 0x11D; it uses no table. -/
def fieldProduct (a b : Byte) : Byte :=
  xorAll ((List.range 8).map fun i => if b.getLsbD i then timesZPow i a else 0#8)

/-- `alpha^i`, with `alpha = 0x02` (41_gf.md R141). -/
def alphaPow (i : Nat) : Byte := timesZPow i 1#8

/-- The value of a polynomial, highest degree first, at `x` (41_gf.md R147), by Horner's rule. -/
def evalAt (P : List Byte) (x : Byte) : Byte := P.foldl (fun acc c => fieldProduct acc x ^^^ c) 0#8

/-- The sum of two polynomials, aligned at the constant coefficient. -/
def addPoly (A B : List Byte) : List Byte :=
  let n := max A.length B.length
  List.zipWith (fun x y => x ^^^ y) (List.replicate (n - A.length) 0#8 ++ A) (List.replicate (n - B.length) 0#8 ++ B)

/-- Coefficient `k` of a product (41_gf.md R149): the sum of `A[i] * B[j]` over i + j = k. -/
def productCoeff (A B : List Byte) (k : Nat) : Byte :=
  xorAll ((List.range (k + 1)).map fun i => fieldProduct (A.getD i 0#8) (B.getD (k - i) 0#8))

/-- The `DATA` or `CW` entries `START`, ..., `START + COUNT - 1` (30_encoding.md R114). -/
def streamOf (s : State) (src : Src) : List Byte :=
  (List.range s.arg1.toNat).map fun j =>
    match src with
    | .data => s.readDataEntry (s.arg0.toNat + j)
    | .cw => s.readCw (s.arg0.toNat + j)

/-- `START + COUNT <= 4096` (42_rs.md R185). -/
abbrev InRange (s : State) : Prop := s.arg0.toNat + s.arg1.toNat ≤ 4096

/-- `CFG_VERSION` is in 1..40 (10_state.md R40). -/
abbrev LegalVersion (s : State) : Prop := 1 ≤ s.cfgVersion.toNat ∧ s.cfgVersion.toNat ≤ 40

/-- `table(CFG_VERSION, CFG_ECC)` (43_blocks.md R202). -/
abbrev configTable (s : State) : BlockParams := blockTable s.cfgVersion.toNat (Ecc.ofCode s.cfgEcc)

/-- The eight block parameter registers (10_state.md R46). -/
abbrev blkOf (P : BlockParams) : Blk :=
  { b1 := wordOf P.b1, d1 := wordOf P.d1, b2 := wordOf P.b2, d2 := wordOf P.d2, ec := wordOf P.ec,
    tdata := wordOf P.tdata, tcw := wordOf P.tcw, rem := wordOf P.rem }

/-- `block(k)` read from `DATA` (43_blocks.md R203). -/
def dataBlock (s : State) (P : BlockParams) (k : Nat) : List Byte :=
  (List.range (P.len k)).map fun j => s.readDataEntry (P.off k + j)

/-- `CW[0..TCW-1]` (44_matrix.md R251). -/
def codewords (s : State) : List Byte := (List.range (configTable s).tcw).map s.readCw

/-- The matrix of the configuration with mask `p`, and its descriptor registers (44_matrix.md R251). -/
def matrixOf (s : State) (p : Nat) : Mtx :=
  { valid := true
    n := wordOf (4 * s.cfgVersion.toNat + 17)
    version := wordOf s.cfgVersion.toNat
    ecc := wordOf s.cfgEcc.toNat
    mask := wordOf p
    cells := build Config.policy s.cfgVersion.toNat (Ecc.ofCode s.cfgEcc) p (codewords s) }

/-! ### The penalty rules as sums and counts over all cells (45_mask.md R281 to R284) -/

/-- The colour of a cell (45_mask.md R280). -/
def dark (g : Grid) (x y : Nat) : Bool := (g.at x y).dark

/-- `c(x, y)` (45_mask.md R281): the neighbours inside the matrix with the same colour, the centre not counted. -/
def neighbours (g : Grid) (n x y : Nat) : Nat :=
  (((Finset.range n).product (Finset.range n)).filter fun c =>
    c ≠ (x, y) ∧ c.1 ≤ x + 1 ∧ x ≤ c.1 + 1 ∧ c.2 ≤ y + 1 ∧ y ≤ c.2 + 1 ∧ dark g c.1 c.2 = dark g x y).card

/-- `P1` (45_mask.md R281). -/
def ruleOne (g : Grid) (n : Nat) : Nat :=
  ∑ c ∈ (Finset.range n).product (Finset.range n),
    if 5 < neighbours g n c.1 c.2 then neighbours g n c.1 c.2 - 2 else 0

/-- `P2` (45_mask.md R282). -/
def ruleTwo (g : Grid) (n : Nat) : Nat :=
  3 * (((Finset.range n).product (Finset.range n)).filter fun c =>
    c.1 + 1 < n ∧ c.2 + 1 < n ∧ dark g c.1 c.2 = dark g (c.1 + 1) c.2 ∧
      dark g c.1 c.2 = dark g c.1 (c.2 + 1) ∧ dark g c.1 c.2 = dark g (c.1 + 1) (c.2 + 1)).card

/-- The pattern 1011101 (45_mask.md R283), as the dark positions. -/
def patternBit (i : Nat) : Bool := i ≠ 1 ∧ i ≠ 5

/-- `P3` (45_mask.md R283). -/
def ruleThree (g : Grid) (n : Nat) : Nat :=
  40 * ((((Finset.range n).product (Finset.range n)).filter fun c =>
          c.1 + 7 ≤ n ∧ ∀ i ∈ Finset.range 7, dark g (c.1 + i) c.2 = patternBit i).card +
        (((Finset.range n).product (Finset.range n)).filter fun c =>
          c.2 + 7 ≤ n ∧ ∀ i ∈ Finset.range 7, dark g c.1 (c.2 + i) = patternBit i).card)

/-- `d` (45_mask.md R284). -/
def darkCells (g : Grid) (n : Nat) : Nat :=
  (((Finset.range n).product (Finset.range n)).filter fun c => dark g c.1 c.2 = true).card

/-- `R4NUM = 100 * |2*d - N*N|` (45_mask.md R284). -/
def ruleFourNum (d n : Nat) : Nat := 100 * ((2 * d - n * n) + (n * n - 2 * d))

/-- The five penalty registers of a matrix (10_state.md R49). -/
def penOf (g : Grid) (n : Nat) : Pen :=
  { r1 := wordOf (ruleOne g n), r2 := wordOf (ruleTwo g n), r3 := wordOf (ruleThree g n),
    dark := wordOf (darkCells g n), r4num := wordOf (ruleFourNum (darkCells g n) n) }

/-- The scaled total `S` (45_mask.md R285). -/
def scaledTotal (g : Grid) (n : Nat) : Nat :=
  n * n * (ruleOne g n + ruleTwo g n + ruleThree g n) + ruleFourNum (darkCells g n) n

/-! ### Encoding -/

/-- The unassigned opcodes (30_encoding.md R119). -/
def Unassigned (opc : Nat) : Prop :=
  (0x01 ≤ opc ∧ opc ≤ 0x0F) ∨ (0x13 ≤ opc ∧ opc ≤ 0x1F) ∨ (0x23 ≤ opc ∧ opc ≤ 0x2F) ∨ (0x33 ≤ opc ∧ opc ≤ 0x3F) ∨
  (0x42 ≤ opc ∧ opc ≤ 0x4F) ∨ (0x53 ≤ opc ∧ opc ≤ 0x5F) ∨ (0x61 ≤ opc ∧ opc ≤ 0xFF)

/-- Bits 31:24 of a word. -/
def opcodeBits (w : Word) : Nat := w.toNat / 2 ^ 24

/-- The bits that must be 0, as the masks 30_encoding.md R116 gives. -/
def mustBeZero (opc : Nat) : Word :=
  if opc = 0x10 then 0x0000FF#32
  else if opc = 0x11 ∨ opc = 0x12 then 0x0000FF#32 ||| 0x00FF00#32
  else if opc = 0x20 ∨ opc = 0x30 then 0xCCCF00#32 ||| 0x033000#32
  else if opc = 0x21 ∨ opc = 0x22 then 0xCCCF00#32 ||| 0x0000FF#32
  else if opc = 0x31 ∨ opc = 0x32 then 0xFEFF00#32
  else if opc = 0x50 then 0xFFFFF8#32
  else 0xFFFFFF#32

/-! ### Bus -/

/-- The byte address `n`. -/
abbrev addr (n : Nat) : BusAddr := BitVec.ofNat 21 n

/-- The offsets of the named registers (10_state.md R31 to R51). -/
def NamedOffset (n : Nat) : Prop :=
  n % 4 = 0 ∧ (n ≤ 0x030 ∨ (0x040 ≤ n ∧ n ≤ 0x04C) ∨ (0x060 ≤ n ∧ n ≤ 0x094) ∨ (0x0A0 ≤ n ∧ n ≤ 0x0B4) ∨
    (0x0C0 ≤ n ∧ n ≤ 0x0FC))

/-- The unmapped addresses (20_memory.md R84, R85; 10_state.md R52). -/
def Unmapped (n : Nat) : Prop :=
  (n < 0x400 ∧ ¬ NamedOffset n) ∨ (0xC00 ≤ n ∧ n < 0x1000) ∨ (0x2800 ≤ n ∧ n < 0x4000) ∨
  (0xC000 ≤ n ∧ n < 0x40000) ∨ (0x80000 ≤ n ∧ n < 0x100000)

/-- The read-only registers and windows of 20_memory.md R87. -/
def ReadOnly (n : Nat) : Prop :=
  n = 0x000 ∨ n = 0x010 ∨ n = 0x014 ∨ (0x040 ≤ n ∧ n < 0x400 ∧ NamedOffset n) ∨
  (0x400 ≤ n ∧ n < 0xC00) ∨ (0x1000 ≤ n ∧ n < 0x2800) ∨ (0x40000 ≤ n ∧ n < 0x80000) ∨ (0x100000 ≤ n ∧ n < 0x200000)

/-- The reset values of 10_state.md R64 by offset (R31 to R51). -/
def resetValue (n : Nat) : Word :=
  if n = 0x000 then 0x51524331#32 else if n = 0x028 then 0x8#32 else if n = 0x02C then 0x004#32 else 0#32

/-- An access error sets `ACC_ERR` and nothing else (60_exceptions.md R329). -/
abbrev withAccErr (s : State) : State := { s with status := { s.status with accErr := true } }

/-- The raw view word of a cell (20_memory.md R91): `(type << 8) | dark`. -/
def rawValue (c : Cell) : Word := wordOf (c.type.code * 256 + (if c.dark then 1 else 0))

/-- `OUT_QZ` of a valid matrix (20_memory.md R92). -/
def border (s : State) : Nat := if s.cfgQz.en then min s.cfgQz.size.toNat (s.mtx.n.toNat / 2) else 0

/-! ### What each register reads (10_state.md R31 to R51) -/

/-- `ID`, `CTRL`, `CMD`, `ERRINFO`, `RESULT` and the operand registers (10_state.md R31, R32, R35 to R39). -/
def controlWords (s : State) : List (Nat × Word) :=
  [(0x000, 0x51524331#32), (0x004, wordOf (2 * s.ctrl.ieDone.toNat + 4 * s.ctrl.ieErr.toNat)), (0x00C, s.cmd),
   (0x010, s.errInfo), (0x014, s.result), (0x018, wordOf s.arg0.toNat), (0x01C, wordOf s.arg1.toNat)]

/-- The configuration registers (10_state.md R40 to R44). -/
def configWords (s : State) : List (Nat × Word) :=
  [(0x020, wordOf s.cfgVersion.toNat), (0x024, wordOf s.cfgEcc.toNat),
   (0x028, wordOf (8 * s.cfgMask.auto.toNat + s.cfgMask.pat.toNat)),
   (0x02C, wordOf (256 * s.cfgQz.en.toNat + s.cfgQz.size.toNat)), (0x030, wordOf s.dlen.toNat)]

/-- The block parameter registers (10_state.md R46). -/
def blkWords (s : State) : List (Nat × Word) :=
  [(0x060, s.blk.b1), (0x064, s.blk.d1), (0x068, s.blk.b2), (0x06C, s.blk.d2), (0x070, s.blk.ec), (0x074, s.blk.tdata),
   (0x078, s.blk.tcw), (0x07C, s.blk.rem)]

/-- The matrix descriptor and output view registers, 0 while `MTX_VALID` is 0 (10_state.md R47, R48). -/
def mtxWords (s : State) : List (Nat × Word) :=
  let word := fun w : Word => if s.mtx.valid = true then w else 0
  [(0x080, word s.mtx.n), (0x084, word s.mtx.version), (0x088, word s.mtx.ecc), (0x08C, word s.mtx.mask),
   (0x090, word (wordOf (border s))), (0x094, word (wordOf (s.mtx.n.toNat + 2 * border s)))]

/-- The penalty registers and `SEL_MASK` (10_state.md R49, R50). -/
def penWords (s : State) : List (Nat × Word) :=
  [(0x0A0, s.pen.r1), (0x0A4, s.pen.r2), (0x0A8, s.pen.r3), (0x0AC, s.pen.dark), (0x0B0, s.pen.r4num), (0x0B4, s.selMask)]

/-- Offset and word of the named registers other than `STATUS` (R33), `PLEN*` (R45) and `CAND_*` (R51). -/
def registerWords (s : State) : List (Nat × Word) :=
  controlWords s ++ configWords s ++ blkWords s ++ mtxWords s ++ penWords s

end Sys2Proof.Spec

open Sys2Proof Sys2Proof.Machine Sys2Proof.Spec

/-! ## Encoding and decoding -/

/-- 30_encoding.md §1 to §4: no bit of an encoding is dropped. -/
def Obligations.DecodeOfEncodeIsTheCommand : Prop :=
  ∀ i : Instr, i.WellFormed → decode (encode i) = .ok i

/-- 30_encoding.md §1 to §4: each command has one word, and each word that is a command is the word of that command. -/
def Obligations.EncodeOfDecodeIsTheWord : Prop :=
  ∀ (w : Word) (i : Instr), decode w = .ok i → encode i = w

/-- 30_encoding.md R119, R120: an unassigned opcode, and no other, completes with `E_ILLEGAL_OPC` and has no other effect. -/
def Obligations.UnassignedOpcodeCompletesAsIllegal : Prop :=
  ∀ s : State, s.status.busy = true →
    (Unassigned (opcodeBits s.cmd) →
      engineTurn s = .next { s with status := failedStatus s.status 1, errInfo := s.cmd }) ∧
    (¬ Unassigned (opcodeBits s.cmd) → decode s.cmd ≠ .error .illegalOpc)

/-- 30_encoding.md R116, R120: with an assigned opcode, a 1 in a bit of R116's mask completes with `E_RESERVED` and has no
other effect; with none, the word is a command. -/
def Obligations.ReservedBitCompletesAsReserved : Prop :=
  ∀ s : State, s.status.busy = true → ¬ Unassigned (opcodeBits s.cmd) →
    (s.cmd &&& mustBeZero (opcodeBits s.cmd) ≠ 0 →
      engineTurn s = .next { s with status := failedStatus s.status 2, errInfo := s.cmd }) ∧
    (s.cmd &&& mustBeZero (opcodeBits s.cmd) = 0 → ∃ i, decode s.cmd = .ok i)

/-- 30_encoding.md R118, R121 and the words of the command rules and of 95_test_vectors.md: one word or more of each family of the
opcode map. -/
def Obligations.WordsOfTheSpecDecode : Prop :=
  decode 0x00000000#32 = .ok .nop ∧ decode 0x10578300#32 = .ok (.gfMul 0x57 0x83) ∧
  decode 0x12570000#32 = .ok (.gfLog 0x57) ∧ decode 0x20100003#32 = .ok (.pSetNum .P1 3) ∧
  decode 0x21201000#32 = .ok (.pMul .P2 .P0 .P1) ∧ decode 0x30000007#32 = .ok (.rsGen .P0 7) ∧
  decode 0x3201000A#32 = .ok (.rsSyn .cw 10) ∧ decode 0x41000000#32 = .ok .interleave ∧
  decode 0x50000004#32 = .ok (.mtxBuild 4) ∧ decode 0x51000000#32 = .ok .maskScore ∧
  decode 0x52000000#32 = .ok .mtxFinal ∧ decode 0x60000000#32 = .ok .run

/-! ## The step -/

/-- 60_exceptions.md §1: on the engine's turn a command in flight that decodes is executed. When the engine has its turn is the
model's own: the agenda gives it (log entry 1, a design choice), or the agenda is empty (log entry 2, a design choice). -/
def Obligations.EngineTurnRunsTheDecodedCommand : Prop :=
  ∀ (s : State) (i : Instr), s.status.busy = true → decode s.cmd = .ok i →
    (s.agenda = [] → step s = exec i s) ∧
    (∀ rest, s.agenda = .engine :: rest → step s = exec i { s with agenda := rest })

/-- 60_exceptions.md §1, 70_reset_and_hazards.md §1: a host move is one transaction, the reset input is one reset, and an engine
with no command in flight keeps all state. The agenda is the model's own (log entries 1 and 2). -/
def Obligations.OtherMovesAreOneEvent : Prop :=
  ∀ (s : State) (rest : List Move),
    (∀ a, s.agenda = .busRead a :: rest → step s = .next ({ s with agenda := rest }.busRead a)) ∧
    (∀ a v, s.agenda = .busWrite a v :: rest → step s = .next ({ s with agenda := rest }.busWrite a v)) ∧
    (s.agenda = .powerOn :: rest → step s = .next { s with agenda := rest }.powerOnReset) ∧
    (s.agenda = .engine :: rest → s.status.busy = false → step s = .next { s with agenda := rest }) ∧
    (s.agenda = [] → s.status.busy = false → step s = .next s)

/-- 93_implementation_defined.md part A, 60_exceptions.md §1, 70_reset_and_hazards.md §3: no step faults or is stuck, and every
accepted command completes: once the host's moves are used up one step ends it, with `DONE` or `ERR`. That the engine moves
then is the model's choice (log entry 2). -/
def Obligations.AcceptedCommandCompletes : Prop :=
  ∀ s : State, s.StepsSafely ∧
    (s.agenda = [] → s.status.busy = true →
      ∃ t, step s = .next t ∧ t.status.busy = false ∧ (t.status.done = true ∨ t.status.err = true))

/-! ## GF scalar commands -/

/-- 46_sequencer.md R310. -/
def Obligations.NopOnlyCompletes : Prop :=
  ∀ s : State, exec .nop s = .next { s with status := doneStatus s.status }

/-- 41_gf.md §1, §3: `GF_MUL` writes the product of the field of R140, and nothing else. -/
def Obligations.GfMulWritesTheFieldProduct : Prop :=
  ∀ (a b : Byte) (s : State),
    exec (.gfMul a b) s =
      .next { s with result := zext32 (fieldProduct a b), status := doneStatus s.status }

/-- 41_gf.md §1, §3: `GF_EXP` writes the power of alpha, and nothing else. -/
def Obligations.GfExpWritesThePowerOfAlpha : Prop :=
  ∀ (a : Byte) (s : State),
    exec (.gfExp a) s = .next { s with result := zext32 (alphaPow a.toNat), status := doneStatus s.status }

/-- 41_gf.md §1, §3: `GF_LOG` of a nonzero element writes the exponent 0..254 that gives the element, and nothing else; of 0 it
fails with `E_LOG_ZERO`, and `RESULT` is unchanged. -/
def Obligations.GfLogWritesTheExponent : Prop :=
  ∀ (a : Byte) (s : State),
    (a ≠ 0 → ∃ k, k < 255 ∧ alphaPow k = a ∧
      exec (.gfLog a) s = .next { s with result := wordOf k, status := doneStatus s.status }) ∧
    (a = 0 → exec (.gfLog a) s = .next { s with status := failedStatus s.status 4, errInfo := 0 })

/-! ## Polynomial commands -/

/-- 41_gf.md §3, 60_exceptions.md §2: `PSETNUM` loads the entries without their leading zeros, times `x^shift`; the zero
polynomial for any shift is the empty list. It fails with `E_RANGE` past entry 4095, and in range with `E_POLY_LEN` past 256
coefficients. -/
def Obligations.PSetNumLoadsTheShiftedEntries : Prop :=
  ∀ (d : PReg) (shift : Nat) (s : State),
    let S := (streamOf s .data).dropWhile (· == 0)
    let P := if S = [] then [] else S ++ List.replicate shift 0
    (InRange s → P.length ≤ 256 →
      exec (.pSetNum d shift) s = .next { s with pr := s.pr.set d.index P, status := doneStatus s.status }) ∧
    (InRange s → 256 < P.length →
      exec (.pSetNum d shift) s = .next { s with status := failedStatus s.status 5, errInfo := wordOf P.length }) ∧
    (¬ InRange s →
      exec (.pSetNum d shift) s =
        .next { s with status := failedStatus s.status 7, errInfo := wordOf (s.arg0.toNat + s.arg1.toNat) })

/-- 41_gf.md §2, §3: `PMUL` writes the convolution, by the field of R140; a zero operand gives zero; a product longer than 256
coefficients fails with `E_POLY_LEN`. -/
def Obligations.PMulWritesTheConvolution : Prop :=
  ∀ (d a b : PReg) (s : State),
    let A := s.readPoly a
    let B := s.readPoly b
    let len := A.length + B.length - 1
    (A ≠ [] → B ≠ [] → len ≤ 256 →
      ∃ R : Poly, R.length = len ∧ (∀ k < len, R.getD k 0 = productCoeff A B k) ∧
        exec (.pMul d a b) s = .next { s with pr := s.pr.set d.index R, status := doneStatus s.status }) ∧
    (A = [] ∨ B = [] →
      exec (.pMul d a b) s = .next { s with pr := s.pr.set d.index [], status := doneStatus s.status }) ∧
    (A ≠ [] → B ≠ [] → 256 < len →
      exec (.pMul d a b) s = .next { s with status := failedStatus s.status 5, errInfo := wordOf len })

/-- 41_gf.md §2, §3: `PMOD` of normalised polynomials, which every reachable state holds (`StepKeepsPolynomialsNormalised`),
writes a normalised `R` shorter than the divisor with `A = Q*B + R`; a zero divisor fails with `E_DIV_ZERO`. -/
def Obligations.PModWritesTheRemainder : Prop :=
  ∀ (d a b : PReg) (s : State),
    (Poly.Normalised (s.readPoly a) → Poly.Normalised (s.readPoly b) → s.readPoly b ≠ [] →
      ∃ Q R : Poly,
        exec (.pMod d a b) s = .next { s with pr := s.pr.set d.index R, status := doneStatus s.status } ∧
        Poly.Normalised R ∧ R.length < (s.readPoly b).length ∧
        normalize (addPoly (polymul Q (s.readPoly b)) R) = s.readPoly a) ∧
    (s.readPoly b = [] →
      exec (.pMod d a b) s = .next { s with status := failedStatus s.status 6, errInfo := 0 })

/-! ## Reed-Solomon -/

/-- 42_rs.md §1, §2: `RS_GEN` writes a monic polynomial of degree `ec` whose roots include alpha^0 .. alpha^(ec-1). -/
def Obligations.RsGenWritesTheGenerator : Prop :=
  ∀ (d : PReg) (ec : Nat) (s : State), ec < 256 →
    ∃ G : Poly, G.length = ec + 1 ∧ G.head? = some 1 ∧ (∀ i < ec, evalAt G (alphaPow i) = 0) ∧
      exec (.rsGen d ec) s = .next { s with pr := s.pr.set d.index G, status := doneStatus s.status }

/-- 42_rs.md §1, §2: `RS_ENC` writes `ec` EC codewords, then zeros, to `ECO`, and nothing else. -/
def Obligations.RsEncWritesTheEcCodewords : Prop :=
  ∀ (src : Src) (ec : Nat) (s : State), ec < 256 → InRange s →
    ∃ t, exec (.rsEnc src ec) s = .next t ∧
      t = { s with eco := t.eco, status := doneStatus s.status } ∧
      (ecwords (streamOf s src) ec).length = ec ∧
      ∀ i < 256, t.eco.getD i 0 = if i < ec then (ecwords (streamOf s src) ec).getD i 0 else 0

/-- 42_rs.md §1, §2: `RS_SYN` writes the values at alpha^0 .. alpha^(ec-1), then zeros, to `SYN`, and to `RESULT` whether all
are 0. -/
def Obligations.RsSynWritesTheSyndromes : Prop :=
  ∀ (src : Src) (ec : Nat) (s : State), ec < 256 → InRange s →
    ∃ t, exec (.rsSyn src ec) s = .next t ∧
      t = { s with syn := t.syn, result := t.result, status := doneStatus s.status } ∧
      (∀ i < 256, t.syn.getD i 0 = if i < ec then evalAt (streamOf s src) (alphaPow i) else 0) ∧
      (t.result = 1 ∨ t.result = 0) ∧
      (t.result = 1 ↔ ∀ i < ec, evalAt (streamOf s src) (alphaPow i) = 0)

/-- 42_rs.md §2: the two stream commands fail with `E_RANGE` past entry 4095. -/
def Obligations.RsStreamsFailOutOfRange : Prop :=
  ∀ (src : Src) (ec : Nat) (s : State), ¬ InRange s →
    exec (.rsEnc src ec) s =
      .next { s with status := failedStatus s.status 7, errInfo := wordOf (s.arg0.toNat + s.arg1.toNat) } ∧
    exec (.rsSyn src ec) s =
      .next { s with status := failedStatus s.status 7, errInfo := wordOf (s.arg0.toNat + s.arg1.toNat) }

/-- 42_rs.md R187: `RS_ENC` followed by `RS_SYN` over the data and the `ECO` entries copied after it gives `RESULT = 1`, with
all-zero syndromes. -/
def Obligations.EncodedBlocksHaveZeroSyndromes : Prop :=
  ∀ (src src' : Src) (ec : Nat) (s t u : State), ec < 256 → InRange s → exec (.rsEnc src ec) s = .next t → InRange u →
    streamOf u src' = streamOf s src ++ (List.range ec).map (fun i => t.eco.getD i 0) →
    ∃ w, exec (.rsSyn src' ec) u = .next w ∧ w.result = 1 ∧ ∀ i < 256, w.syn.getD i 0 = 0

/-! ## Blocks -/

/-- 43_blocks.md §1, §3: `BLK_CFG` loads `table(CFG_VERSION, CFG_ECC)`, and nothing else; that row meets R200 and R201, `C(v)` by the
closed form of 44_matrix.md R250. -/
def Obligations.BlkCfgLoadsConsistentParameters : Prop :=
  ∀ s : State, LegalVersion s →
    let P := configTable s
    exec .blkCfg s = .next { s with blk := blkOf P, status := doneStatus s.status } ∧
      1 ≤ P.b1 ∧ P.d2 = P.d1 + 1 ∧ P.tdata = P.b1 * P.d1 + P.b2 * P.d2 ∧
      P.tcw = (P.b1 + P.b2) * (P.d1 + P.ec) + P.b2 ∧ P.b2 = P.tcw % (P.b1 + P.b2) ∧
      P.d1 = P.tcw / (P.b1 + P.b2) - P.ec ∧ P.rem ≤ 7 ∧
      let v := s.cfgVersion.toNat
      let k := v / 7 + 2
      8 * P.tcw + P.rem =
        (16 * v + 128) * v + 64 - (if 2 ≤ v then 25 * k * k - 10 * k - 55 else 0) - (if 7 ≤ v then 36 else 0)

/-- 43_blocks.md §3, 44_matrix.md §4, 45_mask.md §3, 46_sequencer.md, 60_exceptions.md §2: a version outside 1..40 makes the five
configuration commands fail with `E_INVALID_OPTION`. -/
def Obligations.IllegalVersionFails : Prop :=
  ∀ (s : State) (i : Instr), ¬ LegalVersion s →
    (i = .blkCfg ∨ i = .interleave ∨ (∃ m, i = .mtxBuild m) ∨ i = .mtxFinal ∨ i = .run) →
    exec i s = .next { s with status := failedStatus s.status 3, errInfo := wordOf s.cfgVersion.toNat }

/-- 43_blocks.md §3, 46_sequencer.md: `INTERLEAVE` and `RUN` with a wrong `DLEN` fail with `E_CW_COUNT`. -/
def Obligations.WrongDataCountFails : Prop :=
  ∀ (s : State) (i : Instr), LegalVersion s → s.dlen.toNat ≠ (configTable s).tdata → (i = .interleave ∨ i = .run) →
    exec i s =
      .next { s with status := failedStatus s.status 8
                     errInfo := wordOf ((configTable s).tdata * 2 ^ 16 + s.dlen.toNat) }

/-- 43_blocks.md §2, §3: `INTERLEAVE` writes, place by place: codeword `x` of every block in block order, the extra codeword of the
group-2 blocks, then EC codeword `x` of every block; `CW` from `TCW` on reads as before, and nothing else changes. -/
def Obligations.InterleaveWritesEveryPlace : Prop :=
  ∀ s : State, LegalVersion s → s.dlen.toNat = (configTable s).tdata →
    let P := configTable s
    let n := P.b1 + P.b2
    ∃ t, exec .interleave s = .next t ∧
      t = { s with cw := t.cw, blk := blkOf P, status := doneStatus s.status } ∧
      (∀ k x, k < n → x < P.d1 → t.readCw (x * n + k) = s.readDataEntry (P.off k + x)) ∧
      (∀ k, P.b1 ≤ k → k < n → t.readCw (P.d1 * n + (k - P.b1)) = s.readDataEntry (P.off k + P.d1)) ∧
      (∀ k x, k < n → x < P.ec →
        t.readCw (P.tdata + x * n + k) = (ecwords (dataBlock s P k) P.ec).getD x 0) ∧
      (∀ i, P.tcw ≤ i → t.readCw i = s.readCw i)

/-! ## The matrix -/

/-- 44_matrix.md §4: `MTX_BUILD` replaces the matrix by the build of `CW[0..TCW-1]`, writes `MTX_*` and `BLK_*`, and nothing
else. -/
def Obligations.MtxBuildReplacesTheMatrix : Prop :=
  ∀ (mask : Nat) (s : State), LegalVersion s →
    exec (.mtxBuild mask) s =
      .next { s with mtx := matrixOf s mask, blk := blkOf (configTable s), status := doneStatus s.status }

/-- 44_matrix.md R249, R230: every built matrix has N rows of N cells, none `EMPTY` or `QUIET_ZONE`. -/
def Obligations.BuiltMatrixIsFinished : Prop :=
  ∀ (pol : Policy) (v : Nat) (e : Ecc) (p : Nat) (cws : List Byte), 1 ≤ v → v ≤ 40 →
    (build pol v e p cws).Finished (4 * v + 17)

/-- 44_matrix.md R249: the type of every cell is the same for every level, mask and codeword sequence of a version. -/
def Obligations.CellTypesDependOnTheVersionAlone : Prop :=
  ∀ (pol pol' : Policy) (v : Nat) (e e' : Ecc) (p p' : Nat) (cws cws' : List Byte) (x y : Nat),
    ((build pol v e p cws).at x y).type = ((build pol' v e' p' cws').at x y).type

/-- 44_matrix.md R234, R235, R239: in every built matrix the three finders, their separators and the dark module stand as drawn. -/
def Obligations.FindersSeparatorsAndDarkModuleStand : Prop :=
  ∀ (pol : Policy) (v : Nat) (e : Ecc) (p : Nat) (cws : List Byte), 1 ≤ v → v ≤ 40 →
    let g := build pol v e p cws
    let N := 4 * v + 17
    let light : Cell := { type := .separator, dark := false }
    (∀ ox oy dx dy, ((ox = 0 ∧ oy = 0) ∨ (ox = N - 7 ∧ oy = 0) ∨ (ox = 0 ∧ oy = N - 7)) → dx < 7 → dy < 7 →
      g.at (ox + dx) (oy + dy) =
        { type := .finder
          dark := decide (dx = 0 ∨ dx = 6 ∨ dy = 0 ∨ dy = 6 ∨ (2 ≤ dx ∧ dx ≤ 4 ∧ 2 ≤ dy ∧ dy ≤ 4)) }) ∧
    (∀ i ≤ 7, g.at 7 i = light ∧ g.at i 7 = light ∧ g.at (N - 8) i = light ∧ g.at (N - 1 - i) 7 = light ∧
      g.at 7 (N - 1 - i) = light ∧ g.at i (N - 8) = light) ∧
    g.at 8 (4 * v + 9) = { type := .darkModule, dark := true }

/-- 44_matrix.md R237: every alignment pattern but the three at the finders is placed whole. -/
def Obligations.AlignmentPatternsStandWhole : Prop :=
  ∀ (pol : Policy) (v : Nat) (e : Ecc) (p : Nat) (cws : List Byte) (cx cy i j : Nat), 1 ≤ v → v ≤ 40 →
    cx ∈ alignmentAt v → cy ∈ alignmentAt v → i ≤ 4 → j ≤ 4 →
    let last := 4 * v + 10
    ¬ ((cx = 6 ∧ cy = 6) ∨ (cx = last ∧ cy = 6) ∨ (cx = 6 ∧ cy = last)) →
    (build pol v e p cws).at (cx + i - 2) (cy + j - 2) =
      { type := .alignment, dark := decide (i = 0 ∨ i = 4 ∨ j = 0 ∨ j = 4 ∨ (i = 2 ∧ j = 2)) }

/-- 44_matrix.md R238: the timing cells are dark at even index, but for those that an alignment pattern centred on row 6 or column
6 has set before. -/
def Obligations.TimingPatternsAlternate : Prop :=
  ∀ (pol : Policy) (v : Nat) (e : Ecc) (p : Nat) (cws : List Byte) (i : Nat), 1 ≤ v → v ≤ 40 → 8 ≤ i →
    i ≤ 4 * v + 8 → (∀ c ∈ alignmentAt v, c = 6 ∨ c = 4 * v + 10 ∨ c + 2 < i ∨ i + 2 < c) →
    let g := build pol v e p cws
    g.at 6 i = { type := .timing, dark := decide (i % 2 = 0) } ∧
      g.at i 6 = { type := .timing, dark := decide (i % 2 = 0) }

/-- 44_matrix.md R241: both copies of the version information of a version from 7 on read back as `VI(v)`. -/
def Obligations.VersionInformationReadsBack : Prop :=
  ∀ (pol : Policy) (v : Nat) (e : Ecc) (p : Nat) (cws : List Byte) (i : Nat), 7 ≤ v → v ≤ 40 → i < 18 →
    let g := build pol v e p cws
    let N := 4 * v + 17
    let c : Cell := { type := .version, dark := (versionInfo v).testBit i }
    g.at (N - 11 + i % 3) (i / 3) = c ∧ g.at (i / 3) (N - 11 + i % 3) = c

/-- 44_matrix.md R243: both copies of the format information read back as `FI(e, p)`. -/
def Obligations.FormatInformationReadsBack : Prop :=
  ∀ (pol : Policy) (v : Nat) (e : Ecc) (p : Nat) (cws : List Byte) (i : Nat), 1 ≤ v → v ≤ 40 → i < 15 →
    let g := build pol v e p cws
    let N := 4 * v + 17
    let c : Cell := { type := .format, dark := (formatInfo e p).testBit i }
    g.at 8 (if i ≤ 5 then i else if i ≤ 7 then i + 1 else N - 15 + i) = c ∧
      g.at (if i ≤ 7 then N - 1 - i else if i = 8 then 7 else 14 - i) 8 = c

/-- 44_matrix.md R244, R246, R247 (default policy, log entry 8): the `k`-th cell that is still empty in traversal order holds stream
bit `k` XORed with the mask condition, and is light once the bits are used up. R250: the cells still empty number `8*TCW + REM` of
the block table. R245: the traversal is the column pairs (N-1, N-2), ..., (8, 7), (5, 4), ..., (1, 0), the first upward, the
direction alternating, the right column first in each row. -/
def Obligations.DataCellsHoldTheMaskedBits : Prop :=
  ∀ (v : Nat) (e : Ecc) (p : Nat), 1 ≤ v → v ≤ 40 →
    let N := 4 * v + 17
    let free := fun c : Nat × Nat => decide (((functionGrid v e p).at c.1 c.2).type = .empty)
    (∀ (cws : List Byte) (k x y : Nat), ((zigzag N).filter free)[k]? = some (x, y) →
      (build Config.policy v e p cws).at x y =
        { type := .data
          dark := if k < 8 * cws.length then (cws.getD (k / 8) 0).getLsbD (7 - k % 8) ^^ maskcond p x y else false }) ∧
    (((Finset.range N).product (Finset.range N)).filter fun c => free c = true).card =
      8 * (blockTable v e).tcw + (blockTable v e).rem ∧
    (zigzag N).length = N * (N - 1) ∧
    ∀ j r b, 2 * j + 1 < N → r < N → b < 2 →
      (zigzag N)[2 * N * j + 2 * r + b]? =
        some ((if 6 < N - 1 - 2 * j then N - 1 - 2 * j else N - 2 - 2 * j) - b, if j % 2 = 0 then N - 1 - r else r)

/-! ## Masks -/

/-- 45_mask.md §1, §3: `MASK_SCORE` writes the four penalties of the current matrix, as the sums and counts of the rules, and nothing
else; with no matrix it fails with `E_NO_MATRIX`. -/
def Obligations.MaskScoreWritesThePenalties : Prop :=
  ∀ s : State,
    (s.mtx.valid = true →
      exec .maskScore s =
        .next { s with pen := penOf s.mtx.cells s.mtx.n.toNat, status := doneStatus s.status }) ∧
    (s.mtx.valid = false →
      exec .maskScore s = .next { s with status := failedStatus s.status 9, errInfo := 0 })

/-- 45_mask.md §3: with `AUTO = 0` `MTX_FINAL` builds with `PAT` and leaves `PEN_*` and `CAND_*`. -/
def Obligations.MtxFinalWithFixedMask : Prop :=
  ∀ s : State, LegalVersion s → s.cfgMask.auto = false →
    exec .mtxFinal s =
      .next { s with mtx := matrixOf s s.cfgMask.pat.toNat, selMask := wordOf s.cfgMask.pat.toNat
                     blk := blkOf (configTable s), status := doneStatus s.status }

/-- 45_mask.md §2, §3: with `AUTO = 1` `MTX_FINAL` builds with the lowest mask of minimal scaled total among the eight candidates, and
writes the candidates' and the selected candidate's penalties. -/
def Obligations.MtxFinalSelectsTheFirstMinimum : Prop :=
  ∀ s : State, LegalVersion s → s.cfgMask.auto = true →
    let N := 4 * s.cfgVersion.toNat + 17
    let cand := fun p => (matrixOf s p).cells
    ∃ best, best < 8 ∧
      (∀ p < 8, scaledTotal (cand best) N ≤ scaledTotal (cand p) N) ∧
      (∀ p < best, scaledTotal (cand best) N < scaledTotal (cand p) N) ∧
      ∃ t, exec .mtxFinal s = .next t ∧
        t = { s with mtx := matrixOf s best, selMask := wordOf best, blk := blkOf (configTable s)
                     pen := penOf (cand best) N, candInt := t.candInt, candDark := t.candDark
                     status := doneStatus s.status } ∧
        ∀ p : Fin 8,
          t.candInt[p] = wordOf (ruleOne (cand p) N + ruleTwo (cand p) N + ruleThree (cand p) N) ∧
          t.candDark[p] = wordOf (darkCells (cand p) N)

/-- 46_sequencer.md R311: `RUN` is `INTERLEAVE` and then `MTX_FINAL` on the `CW` just written. -/
def Obligations.RunIsInterleaveThenFinal : Prop :=
  ∀ s : State, LegalVersion s → s.dlen.toNat = (configTable s).tdata →
    ∃ t u, exec .interleave s = .next t ∧ exec .mtxFinal t = .next u ∧ exec .run s = .next u ∧
      u.mtx.valid = true ∧ u.cw = t.cw ∧ u.status = doneStatus s.status

/-! ## Rules over all commands -/

/-- 60_exceptions.md R323, R324: a command either completes, setting `DONE` and no other status bit but `BUSY`, or fails, changing only
`STATUS` and `ERRINFO`. -/
def Obligations.CommandsCompleteOrFailPrecisely : Prop :=
  ∀ (i : Instr) (s t : State), exec i s = .next t →
    (t.status = doneStatus s.status ∧ t.errInfo = s.errInfo) ∨
    (∃ (code : Byte) (info : Word), 3 ≤ code.toNat ∧ code.toNat ≤ 9 ∧
      t = { s with status := failedStatus s.status code, errInfo := info })

/-- 10_state.md §2, §3: which commands write each register and memory; no command writes `DATA`, an operand or a configuration
register, `CTRL` or `CMD`. -/
def Obligations.CommandsWriteOnlyTheirTargets : Prop :=
  ∀ (i : Instr) (s t : State), exec i s = .next t →
    (t.ctrl = s.ctrl ∧ t.cmd = s.cmd ∧ t.arg0 = s.arg0 ∧ t.arg1 = s.arg1 ∧ t.cfgVersion = s.cfgVersion ∧
      t.cfgEcc = s.cfgEcc ∧ t.cfgMask = s.cfgMask ∧ t.cfgQz = s.cfgQz ∧ t.dlen = s.dlen ∧ t.data = s.data ∧
      t.agenda = s.agenda ∧ t.readData = s.readData ∧ t.powerOns = s.powerOns ∧ t.abandons = s.abandons) ∧
    (t.cw ≠ s.cw → i = .interleave ∨ i = .run) ∧
    (t.result ≠ s.result → (∃ a b, i = .gfMul a b) ∨ (∃ a, i = .gfExp a) ∨ (∃ a, i = .gfLog a) ∨ ∃ m ec, i = .rsSyn m ec) ∧
    (t.eco ≠ s.eco → ∃ m ec, i = .rsEnc m ec) ∧
    (t.syn ≠ s.syn → ∃ m ec, i = .rsSyn m ec) ∧
    (∀ k : PReg, t.readPoly k ≠ s.readPoly k →
      (∃ n, i = .pSetNum k n) ∨ (∃ a b, i = .pMul k a b) ∨ (∃ a b, i = .pMod k a b) ∨ ∃ n, i = .rsGen k n) ∧
    (t.blk ≠ s.blk → i = .blkCfg ∨ i = .interleave ∨ (∃ m, i = .mtxBuild m) ∨ i = .mtxFinal ∨ i = .run) ∧
    (t.mtx ≠ s.mtx → (∃ m, i = .mtxBuild m) ∨ i = .mtxFinal ∨ i = .run) ∧
    (t.pen ≠ s.pen → i = .maskScore ∨ i = .mtxFinal ∨ i = .run) ∧
    (t.selMask ≠ s.selMask ∨ t.candInt ≠ s.candInt ∨ t.candDark ≠ s.candDark → i = .mtxFinal ∨ i = .run)

/-! ## Life cycle, status and interrupt -/

/-- 60_exceptions.md R321, R320: a write to `CMD` is accepted when `BUSY = 0` and `ERR = 0`, whatever its value; else it only sets
`CMD_IGN`. -/
def Obligations.CmdWriteIsAcceptedOrIgnored : Prop :=
  ∀ (s : State) (w : Word),
    (s.status.busy = false → s.status.err = false →
      s.busWrite (addr 0x00C) w = { s with cmd := w, status := { s.status with done := false, busy := true } }) ∧
    (s.status.busy = true ∨ s.status.err = true →
      s.busWrite (addr 0x00C) w = { s with status := { s.status with cmdIgn := true } })

/-- 10_state.md R34: a write to `STATUS`, `BUSY` or not, and a read of it, which has no side effect (`readData`, what the host gets,
is the model's own field, log entry 3). -/
def Obligations.StatusWriteClearsWhereOne : Prop :=
  ∀ (s : State) (v : Word),
    s.busWrite (addr 0x008) v =
      { s with
        status :=
          { busy := s.status.busy
            done := s.status.done && !v.getLsbD 1
            err := s.status.err && !v.getLsbD 2
            accErr := s.status.accErr && !v.getLsbD 3
            cmdIgn := s.status.cmdIgn && !v.getLsbD 4
            errCode := if v.getLsbD 2 then 0 else s.status.errCode }
        errInfo := if v.getLsbD 2 then 0 else s.errInfo } ∧
    ∃ x, s.busRead (addr 0x008) = { s with readData := x }

/-- 10_state.md R33, R63: the bits a read of `STATUS` returns, `IRQ` among them, which is the interrupt output; the rest read 0. -/
def Obligations.StatusReadsItsFields : Prop :=
  ∀ s : State,
    let w := (s.busRead (addr 0x008)).readData
    w.getLsbD 0 = s.status.busy ∧ w.getLsbD 1 = s.status.done ∧ w.getLsbD 2 = s.status.err ∧
    w.getLsbD 3 = s.status.accErr ∧ w.getLsbD 4 = s.status.cmdIgn ∧ w.getLsbD 5 = s.mtx.valid ∧
    s.irq = ((s.ctrl.ieDone && s.status.done) || (s.ctrl.ieErr && s.status.err)) ∧ w.getLsbD 6 = s.irq ∧
    w.getLsbD 7 = false ∧ w.extractLsb' 8 8 = s.status.errCode ∧ w.extractLsb' 16 16 = 0#16

/-- 60_exceptions.md R328: an error blocks the engine, every write to `CMD` setting only `CMD_IGN`, until a write to `STATUS` with bit
2 or a soft reset clears it; then the next command is accepted. -/
def Obligations.ErrorBlocksUntilAcknowledged : Prop :=
  ∀ (s : State) (v w x : Word), s.status.err = true → v.getLsbD 2 = true → x.getLsbD 0 = true →
    s.busWrite (addr 0x00C) w = { s with status := { s.status with cmdIgn := true } } ∧
    let t := s.busWrite (addr 0x008) v
    let r := s.busWrite (addr 0x004) x
    (t.status.err = false ∧ t.status.errCode = 0 ∧ t.errInfo = 0 ∧
      (s.status.busy = false → (t.busWrite (addr 0x00C) w).status.busy = true ∧ (t.busWrite (addr 0x00C) w).cmd = w)) ∧
    r.status.err = false ∧ r.status.errCode = 0 ∧ r.errInfo = 0 ∧
      (r.busWrite (addr 0x00C) w).status.busy = true ∧ (r.busWrite (addr 0x00C) w).cmd = w

/-! ## The bus -/

/-- 20_memory.md R83, R85: a misaligned or unmapped read returns 0 and such a write is ignored; either sets `ACC_ERR`. -/
def Obligations.MisalignedAndUnmappedSetAccErr : Prop :=
  ∀ (s : State) (n : Nat) (v : Word), n < 0x200000 → (n % 4 ≠ 0 ∨ Unmapped n) →
    s.busRead (addr n) = { withAccErr s with readData := 0 } ∧ s.busWrite (addr n) v = withAccErr s

/-- 20_memory.md R87: a write to a read-only register or window is ignored and sets `ACC_ERR`. -/
def Obligations.ReadOnlyWritesSetAccErr : Prop :=
  ∀ (s : State) (n : Nat) (v : Word), n % 4 = 0 → ReadOnly n → s.busWrite (addr n) v = withAccErr s

/-- 20_memory.md R93, R94: while `BUSY` every window is locked, and a write to a register other than `CTRL`, `STATUS` and `CMD` is
ignored, each setting `ACC_ERR`; a read of a named register answers and has no other effect. -/
def Obligations.BusyLocksTheCore : Prop :=
  ∀ (s : State) (n : Nat) (v : Word), s.status.busy = true → n < 0x200000 →
    (0x400 ≤ n → s.busRead (addr n) = { withAccErr s with readData := 0 } ∧ s.busWrite (addr n) v = withAccErr s) ∧
    (NamedOffset n → n ≠ 0x004 → n ≠ 0x008 → n ≠ 0x00C → s.busWrite (addr n) v = withAccErr s) ∧
    (NamedOffset n → ∃ x, s.busRead (addr n) = { s with readData := x })

/-- 10_state.md §2 (R32, R38 to R44), R66: a write to `CTRL` without bit 0, `BUSY` or not, and with `BUSY` 0 a write to any other
read-write register stores its fields and nothing else, and a read of it then returns them, the reserved bits 0. That a read of
`CTRL` returns the bits just written also while `BUSY` is the model's reading of R94 and R95 (log entry 20). -/
def Obligations.ReadWriteRegistersKeepTheirFields : Prop :=
  ∀ (s : State) (v : Word),
    let w := fun n => s.busWrite (addr n) v
    let back := fun n => ((w n).busRead (addr n)).readData
    (v.getLsbD 0 = false → w 0x004 = { s with ctrl := (w 0x004).ctrl } ∧ back 0x004 = v &&& 0x6#32) ∧
    (s.status.busy = false →
      (w 0x018 = { s with arg0 := (w 0x018).arg0 } ∧ back 0x018 = v &&& 0xFFF#32) ∧
      (w 0x01C = { s with arg1 := (w 0x01C).arg1 } ∧ back 0x01C = v &&& 0x1FFF#32) ∧
      (w 0x020 = { s with cfgVersion := (w 0x020).cfgVersion } ∧ back 0x020 = v &&& 0x3F#32) ∧
      (w 0x024 = { s with cfgEcc := (w 0x024).cfgEcc } ∧ back 0x024 = v &&& 0x3#32) ∧
      (w 0x028 = { s with cfgMask := (w 0x028).cfgMask } ∧ back 0x028 = v &&& 0xF#32) ∧
      (w 0x02C = { s with cfgQz := (w 0x02C).cfgQz } ∧ back 0x02C = v &&& 0x1FF#32) ∧
      (w 0x030 = { s with dlen := (w 0x030).dlen } ∧ back 0x030 = v &&& 0x1FFF#32))

/-- 20_memory.md R86, R98: with `BUSY` 0, a read of entry `i` of `DATA` or `CW` gives the byte that commands read there, written or a
draw (log entry 4), zero-extended, and changes nothing but the word the host gets (`readData`, log entry 3); a write stores
`v[7:0]`, which commands and the host then read, and every other entry of both memories reads as before. -/
def Obligations.MemoryWindowsStoreOneEntry : Prop :=
  ∀ (s : State) (i : Nat) (v : Word), s.status.busy = false → i < 4096 →
    s.busRead (addr (0x4000 + 4 * i)) = { s with readData := zext32 (s.readDataEntry i) } ∧
    s.busRead (addr (0x8000 + 4 * i)) = { s with readData := zext32 (s.readCw i) } ∧
    (let t := s.busWrite (addr (0x4000 + 4 * i)) v
     t.readDataEntry i = v.setWidth 8 ∧ (t.busRead (addr (0x4000 + 4 * i))).readData = zext32 (v.setWidth 8) ∧
       (∀ j, j ≠ i → t.readDataEntry j = s.readDataEntry j) ∧ t = { s with data := t.data }) ∧
    (let t := s.busWrite (addr (0x8000 + 4 * i)) v
     t.readCw i = v.setWidth 8 ∧ (t.busRead (addr (0x8000 + 4 * i))).readData = zext32 (v.setWidth 8) ∧
       (∀ j, j ≠ i → t.readCw j = s.readCw j) ∧ t = { s with cw := t.cw })

/-- 10_state.md R31 to R51: in every state, `BUSY` or not, a read of each named register (of `STATUS`, `StatusReadsItsFields`) returns its
fields, and 20_memory.md R89, R90: with `BUSY` 0 the polynomial, `ECO` and `SYN` windows return their entries; no read changes
anything but the word the host gets (`readData`, the model's own field, log entry 3). That `CTRL` reads its current bits while
`BUSY`, also after a write to it, is the model's reading of R94 and R95 (log entry 20). -/
def Obligations.ResultWindowsReadTheirEntries : Prop :=
  ∀ s : State,
    (∀ q ∈ registerWords s, s.busRead (addr q.1) = { s with readData := q.2 }) ∧
    (∀ k : PReg, s.busRead (addr (0x040 + 4 * k.index.val)) = { s with readData := wordOf (s.readPoly k).length }) ∧
    (∀ p : Fin 8, s.busRead (addr (0x0C0 + 4 * p.val)) = { s with readData := s.candInt[p] } ∧
      s.busRead (addr (0x0E0 + 4 * p.val)) = { s with readData := s.candDark[p] }) ∧
    ∀ (k : PReg) (i : Nat), s.status.busy = false → i < 256 →
      s.busRead (addr (0x1000 + 0x400 * k.index.val + 4 * i)) =
        { s with readData := if i < (s.readPoly k).length then zext32 ((s.readPoly k).getD i 0) else 0 } ∧
      s.busRead (addr (0x2000 + 4 * i)) = { s with readData := zext32 (s.eco.getD i 0) } ∧
      s.busRead (addr (0x2400 + 4 * i)) = { s with readData := zext32 (s.syn.getD i 0) }

/-- 20_memory.md R88: the `EXP` and `LOG` windows hold the powers and logarithms of alpha, and the sentinel. -/
def Obligations.TableWindowsHoldPowersAndLogarithms : Prop :=
  ∀ (s : State) (i : Nat), s.status.busy = false → i < 256 →
    s.busRead (addr (0x400 + 4 * i)) = { s with readData := zext32 (alphaPow i) } ∧
    s.busRead (addr 0x800) = { s with readData := 0xFFFFFFFF#32 } ∧
    (i < 255 → s.busRead (addr (0x800 + 4 * (alphaPow i).toNat)) = { s with readData := wordOf i })

/-- 20_memory.md R91: the raw matrix view. -/
def Obligations.RawViewReadsTheMatrix : Prop :=
  ∀ (s : State) (x y : Nat), s.status.busy = false → x < 256 → y < 256 →
    s.busRead (addr (0x40000 + 4 * (256 * y + x))) =
      { s with readData :=
          if s.mtx.valid = true ∧ x < s.mtx.n.toNat ∧ y < s.mtx.n.toNat then rawValue (s.mtx.cells.at x y) else 0 }

/-- 20_memory.md R92: the output view is the matrix with a light border of `min(SIZE, floor(N/2))` cells when `EN` is 1; `OUT_QZ` and
`OUT_SIZE` read its border and its side, 0 with no matrix (10_state.md R48). -/
def Obligations.OutputViewAddsTheQuietZone : Prop :=
  ∀ (s : State) (x y : Nat), s.status.busy = false → x < 512 → y < 512 →
    let N := s.mtx.n.toNat
    let q := border s
    s.busRead (addr (0x100000 + 4 * (512 * y + x))) =
      { s with readData :=
          if s.mtx.valid = false ∨ N + 2 * q ≤ x ∨ N + 2 * q ≤ y then 0
          else if q ≤ x ∧ x < q + N ∧ q ≤ y ∧ y < q + N then rawValue (s.mtx.cells.at (x - q) (y - q))
          else 0x00000900#32 } ∧
    s.busRead (addr 0x090) = { s with readData := if s.mtx.valid = true then wordOf q else 0 } ∧
    s.busRead (addr 0x094) = { s with readData := if s.mtx.valid = true then wordOf (N + 2 * q) else 0 }

/-! ## Reset -/

/-- 10_state.md R64: every named register reads its reset value in the reset state, and after a power-on reset or a soft reset of any
state. -/
def Obligations.RegistersReadTheirResetValues : Prop :=
  ∀ (n : Nat) (s : State) (v : Word), NamedOffset n → v.getLsbD 0 = true →
    State.reset.busRead (addr n) = { State.reset with readData := resetValue n } ∧
    (s.powerOnReset.busRead (addr n)).readData = resetValue n ∧
    ((s.busWrite (addr 0x004) v).busRead (addr n)).readData = resetValue n

/-- 70_reset_and_hazards.md §1, 10_state.md R64, R65: a soft reset of a core that runs no `INTERLEAVE` and no `RUN` sets every register to
its reset value and keeps `DATA` and `CW`; of one that does, it does the same but for `CW`. A power-on reset leaves the reset state,
in which the polynomial registers are empty, `ECO` and `SYN` are 0 in every entry, the matrix is invalid and no `DATA` or `CW`
entry is written: each reads as its new draw (log entry 4). The fields `agenda`, `readData`, `powerOns` and `abandons` are the
model's own (log entry 11). -/
def Obligations.SoftResetKeepsOnlyTheMemories : Prop :=
  ∀ s : State,
    (∀ v : Word, v.getLsbD 0 = true →
      ∃ t, s.busWrite (addr 0x004) v = t ∧
        t = { State.reset with data := s.data, cw := t.cw, agenda := s.agenda, readData := s.readData
                               powerOns := s.powerOns, abandons := t.abandons } ∧
        (s.status.busy = false ∨ (decode s.cmd ≠ .ok .interleave ∧ decode s.cmd ≠ .ok .run) →
          t.cw = s.cw ∧ t.abandons = s.abandons)) ∧
    let r := s.powerOnReset
    r = { State.reset with agenda := s.agenda, readData := s.readData
                           powerOns := s.powerOns + 1, abandons := s.abandons } ∧
      (∀ k : PReg, r.readPoly k = []) ∧ (∀ i < 256, r.eco.getD i 0 = 0 ∧ r.syn.getD i 0 = 0) ∧
      r.mtx.valid = false ∧ r.status.busy = false ∧ r.data = [] ∧ r.cw = [] ∧
      ∀ i, r.readDataEntry i = Config.dataDraw (s.powerOns + 1) i ∧ r.readCw i = Config.cwDraw (s.powerOns + 1) i

/-- 70_reset_and_hazards.md R367: after a soft reset that abandons an `INTERLEAVE` or `RUN`, each of `CW[0..TCW-1]` holds its old value or
the value the command would have written; every other `CW` entry and `DATA` are unchanged. -/
def Obligations.AbandonedWriterMixesOldAndNew : Prop :=
  ∀ (s u : State) (v : Word), v.getLsbD 0 = true → s.status.busy = true →
    (decode s.cmd = .ok .interleave ∨ decode s.cmd = .ok .run) → LegalVersion s →
    s.dlen.toNat = (configTable s).tdata → exec .interleave s = .next u →
    let t := s.busWrite (addr 0x004) v
    (∀ i < (configTable s).tcw, t.readCw i = s.readCw i ∨ t.readCw i = u.readCw i) ∧
    (∀ i, (configTable s).tcw ≤ i → t.readCw i = s.readCw i) ∧ t.data = s.data

/-! ## Invariants -/

/-- The memories stay in canonical form over every step (10_state.md R53, R54; log entry 14). -/
def Obligations.StepKeepsMemoryCanonical : Prop :=
  ∀ s t : State, s.MemoryOk → step s = .next t → t.MemoryOk

/-- 10_state.md R55: every step keeps every polynomial register normalised and at most 256 long. -/
def Obligations.StepKeepsPolynomialsNormalised : Prop :=
  ∀ s t : State, s.PolynomialsOk → step s = .next t → t.PolynomialsOk

/-- 60_exceptions.md R328 and the status rules: every step keeps the status bits legal; `DONE` and `ERR` are never both 1. -/
def Obligations.StepKeepsStatusLegal : Prop :=
  ∀ s t : State, s.StatusOk → step s = .next t → t.StatusOk

/-- 10_state.md R58, R47, 44_matrix.md R249: every step keeps the matrix memory invalid and blank, or a finished matrix of its
registers. -/
def Obligations.StepKeepsMatrixFinished : Prop :=
  ∀ s t : State, s.mtx.Ok → step s = .next t → t.mtx.Ok

/-- The reset state meets every invariant. -/
def Obligations.ResetMeetsTheInvariant : Prop := State.reset.Inv
end

