-- ==== Sys2Proof/Laws/Decode.lean ====
section
/-! SUPPORT. What decoding can answer, the fields of an encoded word, and the opcode table's match and mask. -/

namespace Sys2Proof

theorem unlessReserved_eq_ok {w : Word} {fs : List (Nat × Nat)} {i j : Instr} (h : unlessReserved w fs i = .ok j) :
    allZero w fs = true ∧ j = i := by
  unfold unlessReserved at h
  split at h
  · next hz => exact ⟨hz, by simpa using h.symm⟩
  · cases h

theorem fieldImm8_fits (w : Word) : fitsImm8 (fieldImm8 w) = true :=
  decide_eq_true (field w 0 8).isLt

theorem fieldMask_fits (w : Word) : fitsMask (fieldMask w) = true :=
  decide_eq_true (field w 0 3).isLt

theorem fitsImm8_iff {n : Nat} : fitsImm8 n = true ↔ n < 256 := decide_eq_true_iff

theorem fitsMask_iff {p : Nat} : fitsMask p = true ↔ p < 8 := decide_eq_true_iff

/-- What the decoder gives is a command of the hardware. -/
theorem decode_wellFormed {w : Word} {i : Instr} (h : decode w = .ok i) : i.WellFormed := by
  unfold decode at h
  split at h <;> first
    | (obtain ⟨-, rfl⟩ := unlessReserved_eq_ok h
       first | rfl | exact fieldImm8_fits w | exact fieldMask_fits w)
    | cases h

/-- A field of a word is the quotient and remainder of its number. -/
theorem field_toNat (w : Word) (lo len : Nat) : (field w lo len).toNat = w.toNat / 2 ^ lo % 2 ^ len := by
  simp [field, BitVec.extractLsb'_toNat, Nat.shiftRight_eq_div_pow]

theorem commandWord_toNat {opc operands : Nat} (ho : opc < 2 ^ 8) (hp : operands < 2 ^ 24) :
    (commandWord opc operands).toNat = opc * 2 ^ 24 + operands := by
  rw [commandWord, BitVec.toNat_ofNat]
  exact Nat.mod_eq_of_lt (by omega)

/-- The opcode of a command (30_encoding.md R118). -/
def Instr.opcode : Instr → Nat
  | .nop => 0x00
  | .gfMul _ _ => 0x10
  | .gfExp _ => 0x11
  | .gfLog _ => 0x12
  | .pSetNum _ _ => 0x20
  | .pMul _ _ _ => 0x21
  | .pMod _ _ _ => 0x22
  | .rsGen _ _ => 0x30
  | .rsEnc _ _ => 0x31
  | .rsSyn _ _ => 0x32
  | .blkCfg => 0x40
  | .interleave => 0x41
  | .mtxBuild _ => 0x50
  | .maskScore => 0x51
  | .mtxFinal => 0x52
  | .run => 0x60

theorem PReg.ofField_index (k : PReg) : PReg.ofField (BitVec.ofNat 2 k.index.val) = k := by cases k <;> rfl

end Sys2Proof
end

