-- ==== Sys2Proof/Laws/Galois.lean ====
section
/-! SUPPORT. Lengths and leading coefficients of the polynomial operations. -/

namespace Sys2Proof.Machine

@[simp] theorem xorInto_length (i : Nat) (ps rs : List Byte) : (xorInto i ps rs).length = rs.length := by
  induction rs generalizing i ps with
  | nil => cases i <;> cases ps <;> rfl
  | cons r rs ih => cases i <;> cases ps <;> simp [xorInto, ih]

/-- What `xorInto` writes at each position. -/
theorem xorInto_getElem? (i : Nat) (ps rs : List Byte) (k : Nat) :
    (xorInto i ps rs)[k]? = rs[k]?.map fun r => if i ≤ k then r ^^^ ps.getD (k - i) 0 else r := by
  induction rs generalizing i ps k with
  | nil => cases i <;> cases ps <;> simp [xorInto]
  | cons r rs ih =>
    cases i with
    | zero =>
      cases ps with
      | nil => simp [xorInto]
      | cons p ps => cases k <;> simp [xorInto, ih]
    | succ i => cases k <;> simp [xorInto, ih]

theorem normalize_normalised (p : Poly) : (normalize p).Normalised := by
  induction p with
  | nil => simp [normalize, Poly.Normalised]
  | cons c p ih =>
    by_cases hc : c = 0#8
    · simpa [normalize, hc] using ih
    · simp [normalize, Poly.Normalised, hc]

theorem normalize_length_le (p : Poly) : (normalize p).length ≤ p.length :=
  (List.dropWhile_suffix _).sublist.length_le

theorem normalize_of_normalised {p : Poly} (h : p.Normalised) : normalize p = p := by
  cases p with
  | nil => rfl
  | cons c p =>
    have hc : c ≠ 0#8 := by simpa [Poly.Normalised] using h
    simp [normalize, hc]

@[simp] theorem polymulRows_length (B : Poly) (i : Nat) (A R : List Byte) :
    (polymulRows B i A R).length = R.length := by
  induction A generalizing i R with
  | nil => rfl
  | cons a A ih => simp [polymulRows, ih]

/-- `len(A) + len(B) - 1`, or 0 when a factor is zero (41_gf.md R149, R155). -/
theorem polymul_length (A B : Poly) :
    (polymul A B).length = if A.length = 0 ∨ B.length = 0 then 0 else A.length + B.length - 1 := by
  unfold polymul
  split <;> simp_all

/-- A pass or nothing: the loop never lengthens its polynomial. -/
theorem polymodLoop_length_le (B : Poly) (fuel : Nat) (R : Poly) : (polymodLoop B fuel R).length ≤ R.length := by
  induction fuel generalizing R with
  | zero => exact Nat.le_refl _
  | succ fuel ih =>
    unfold polymodLoop
    split
    · refine (ih _).trans ?_
      exact (normalize_length_le _).trans (by simp)
    · exact Nat.le_refl _

theorem gen_length (ec : Nat) : (gen ec).length = ec + 1 := by
  induction ec with
  | zero => rfl
  | succ ec ih => simp [gen, polymul_length, ih]

@[simp] theorem syndromes_length (C : List Byte) (ec : Nat) : (syndromes C ec).length = ec := by simp [syndromes]

end Sys2Proof.Machine
end

