-- ==== Sys2Proof/Laws/Grid.lean ====
section
/-! SUPPORT. The laws of a matrix: what a store and a put change, that no step changes its size, and the cells of a column
pair. -/

namespace Sys2Proof.Machine

/-- The cell is inside the grid. -/
def Grid.Inside (g : Grid) (x y : Nat) : Prop := ∃ row, g[y]? = some row ∧ x < row.length

@[simp] theorem store_length (g : Grid) (x y : Nat) (c : Cell) : (g.store x y c).length = g.length := by
  simp [Grid.store]

/-- A store changes the one cell it names. -/
theorem at_store_other (g : Grid) {x y x' y' : Nat} (c : Cell) (h : ¬ (x' = x ∧ y' = y)) :
    (g.store x y c).at x' y' = g.at x' y' := by
  simp only [Grid.at, Grid.store, List.getD_eq_getElem?_getD, List.getElem?_modify]
  by_cases hy : y = y'
  · subst hy
    have hx : x ≠ x' := fun e => h ⟨e.symm, rfl⟩
    cases g[y]? with
    | none => simp
    | some row => simp [hx]
  · simp [hy]

/-- A cell inside the grid reads as what was stored. -/
theorem at_store_same {g : Grid} {x y : Nat} (c : Cell) (h : g.Inside x y) : (g.store x y c).at x y = c := by
  obtain ⟨row, hrow, hx⟩ := h
  simp only [Grid.at, Grid.store, List.getD_eq_getElem?_getD, List.getElem?_modify, hrow]
  simp [hx]

/-- The row lengths of a grid; no store changes them. -/
theorem store_rowLengths (g : Grid) (x y : Nat) (c : Cell) :
    (g.store x y c).map List.length = g.map List.length := by
  apply List.ext_getElem?
  intro k
  simp only [Grid.store, List.getElem?_map, List.getElem?_modify]
  by_cases hk : y = k
  · subst hk; cases g[y]? <;> simp
  · simp [hk]

/-- A put keeps a cell that an earlier step has set (44_matrix.md R232). -/
theorem at_put_of_set (g : Grid) (p : Put) {x y : Nat} (h : (g.at x y).type ≠ .empty) :
    (g.put p).at x y = g.at x y := by
  unfold Grid.put
  split
  · next he =>
    by_cases hxy : x = p.x ∧ y = p.y
    · obtain ⟨rfl, rfl⟩ := hxy
      exact absurd he h
    · exact at_store_other g _ hxy
  · rfl

/-- So does a sequence of puts. -/
theorem at_putAll_of_set (g : Grid) (ps : List Put) {x y : Nat} (h : (g.at x y).type ≠ .empty) :
    (g.putAll ps).at x y = g.at x y := by
  induction ps generalizing g with
  | nil => rfl
  | cons p ps ih =>
    have hp := at_put_of_set g p h
    simp only [Grid.putAll, List.foldl_cons] at ih ⊢
    rw [ih (g.put p) (by rw [hp]; exact h), hp]

theorem put_rowLengths (g : Grid) (p : Put) : (g.put p).map List.length = g.map List.length := by
  unfold Grid.put
  split
  · exact store_rowLengths _ _ _ _
  · rfl

theorem putAll_rowLengths (g : Grid) (ps : List Put) : (g.putAll ps).map List.length = g.map List.length := by
  induction ps generalizing g with
  | nil => rfl
  | cons p ps ih =>
    simp only [Grid.putAll, List.foldl_cons] at ih ⊢
    rw [ih, put_rowLengths]

theorem placeAlignments_rowLengths (g : Grid) (v : Nat) :
    (g.placeAlignments v).map List.length = g.map List.length := by
  unfold Grid.placeAlignments
  induction alignmentCentres v generalizing g with
  | nil => rfl
  | cons c cs ih =>
    rw [List.foldl_cons, ih]
    unfold Grid.placeAlignment
    split
    · exact putAll_rowLengths _ _
    · rfl

theorem functionGrid_rowLengths (v : Nat) (e : Ecc) (p : Nat) :
    (functionGrid v e p).map List.length = List.replicate (moduleCount v) (moduleCount v) := by
  simp [functionGrid, putAll_rowLengths, put_rowLengths, placeAlignments_rowLengths, clearGrid]

theorem mapData_rowLengths (pol : Policy) (p : Nat) (cs : List (Nat × Nat)) (bits : List Bool) (g : Grid) :
    (mapData pol p cs bits g).map List.length = g.map List.length := by
  induction cs generalizing bits g with
  | nil => rfl
  | cons c cs ih =>
    unfold mapData
    split
    · split <;> rw [ih, store_rowLengths]
    · exact ih _ _

/-- Every built matrix has `N` rows of `N` cells (44_matrix.md R230). -/
theorem build_rowLengths (pol : Policy) (v : Nat) (e : Ecc) (p : Nat) (cws : List Byte) :
    (build pol v e p cws).map List.length = List.replicate (moduleCount v) (moduleCount v) := by
  rw [build, mapData_rowLengths, functionGrid_rowLengths]

/-! ## The traversal -/

/-- A list of pairs laid out flat. -/
theorem flatMap_pair_getElem? {α β : Type} (f g : α → β) :
    ∀ (l : List α) (r b : Nat), b < 2 →
      (l.flatMap fun a => [f a, g a])[2 * r + b]? = l[r]?.map fun a => if b = 0 then f a else g a
  | [], _, _, _ => by simp
  | a :: l, 0, b, hb => by
    obtain rfl | rfl : b = 0 ∨ b = 1 := by omega
    all_goals simp
  | a :: l, r + 1, b, hb => by
    have : 2 * (r + 1) + b = 2 * r + b + 2 := by omega
    simpa [this] using flatMap_pair_getElem? f g l r b hb

/-- A column pair has two cells in each of its `n` rows (44_matrix.md R245). -/
theorem columnPair_length (n col : Nat) (up : Bool) : (columnPair n col up).length = 2 * n := by
  cases up <;> simp [columnPair, List.length_flatMap, Nat.mul_comm]

/-- The cell `b` of row step `r` of a column pair (44_matrix.md R245). -/
theorem columnPair_getElem? {n col r b : Nat} (up : Bool) (hr : r < n) (hb : b < 2) :
    (columnPair n col up)[2 * r + b]? = some (col - b, if up then n - 1 - r else r) := by
  rw [columnPair, flatMap_pair_getElem? _ _ _ _ _ hb]
  obtain rfl | rfl : b = 0 ∨ b = 1 := by omega
  all_goals cases up <;> simp [hr]

end Sys2Proof.Machine
end

