-- ==== Sys2Proof/Laws/State.lean ====
section
/-! SUPPORT. One lemma per field per named update, each true by `rfl`, so that no proof unfolds a record update. -/

namespace Sys2Proof.Machine

section
variable (s : State)

/-! ### `writeResult` -/

@[simp] theorem writeResult_ctrl (v : Word) : (s.writeResult v).ctrl = s.ctrl := rfl
@[simp] theorem writeResult_status (v : Word) : (s.writeResult v).status = s.status := rfl
@[simp] theorem writeResult_cmd (v : Word) : (s.writeResult v).cmd = s.cmd := rfl
@[simp] theorem writeResult_errInfo (v : Word) : (s.writeResult v).errInfo = s.errInfo := rfl
@[simp] theorem writeResult_result (v : Word) : (s.writeResult v).result = v := rfl
@[simp] theorem writeResult_arg0 (v : Word) : (s.writeResult v).arg0 = s.arg0 := rfl
@[simp] theorem writeResult_arg1 (v : Word) : (s.writeResult v).arg1 = s.arg1 := rfl
@[simp] theorem writeResult_cfgVersion (v : Word) : (s.writeResult v).cfgVersion = s.cfgVersion := rfl
@[simp] theorem writeResult_cfgEcc (v : Word) : (s.writeResult v).cfgEcc = s.cfgEcc := rfl
@[simp] theorem writeResult_cfgMask (v : Word) : (s.writeResult v).cfgMask = s.cfgMask := rfl
@[simp] theorem writeResult_cfgQz (v : Word) : (s.writeResult v).cfgQz = s.cfgQz := rfl
@[simp] theorem writeResult_dlen (v : Word) : (s.writeResult v).dlen = s.dlen := rfl
@[simp] theorem writeResult_blk (v : Word) : (s.writeResult v).blk = s.blk := rfl
@[simp] theorem writeResult_mtx (v : Word) : (s.writeResult v).mtx = s.mtx := rfl
@[simp] theorem writeResult_pen (v : Word) : (s.writeResult v).pen = s.pen := rfl
@[simp] theorem writeResult_selMask (v : Word) : (s.writeResult v).selMask = s.selMask := rfl
@[simp] theorem writeResult_candInt (v : Word) : (s.writeResult v).candInt = s.candInt := rfl
@[simp] theorem writeResult_candDark (v : Word) : (s.writeResult v).candDark = s.candDark := rfl
@[simp] theorem writeResult_pr (v : Word) : (s.writeResult v).pr = s.pr := rfl
@[simp] theorem writeResult_eco (v : Word) : (s.writeResult v).eco = s.eco := rfl
@[simp] theorem writeResult_syn (v : Word) : (s.writeResult v).syn = s.syn := rfl
@[simp] theorem writeResult_data (v : Word) : (s.writeResult v).data = s.data := rfl
@[simp] theorem writeResult_cw (v : Word) : (s.writeResult v).cw = s.cw := rfl
@[simp] theorem writeResult_agenda (v : Word) : (s.writeResult v).agenda = s.agenda := rfl
@[simp] theorem writeResult_readData (v : Word) : (s.writeResult v).readData = s.readData := rfl
@[simp] theorem writeResult_powerOns (v : Word) : (s.writeResult v).powerOns = s.powerOns := rfl
@[simp] theorem writeResult_abandons (v : Word) : (s.writeResult v).abandons = s.abandons := rfl

/-! ### `writePoly` -/

@[simp] theorem writePoly_ctrl (k : PReg) (P : Poly) : (s.writePoly k P).ctrl = s.ctrl := rfl
@[simp] theorem writePoly_status (k : PReg) (P : Poly) : (s.writePoly k P).status = s.status := rfl
@[simp] theorem writePoly_cmd (k : PReg) (P : Poly) : (s.writePoly k P).cmd = s.cmd := rfl
@[simp] theorem writePoly_errInfo (k : PReg) (P : Poly) : (s.writePoly k P).errInfo = s.errInfo := rfl
@[simp] theorem writePoly_result (k : PReg) (P : Poly) : (s.writePoly k P).result = s.result := rfl
@[simp] theorem writePoly_arg0 (k : PReg) (P : Poly) : (s.writePoly k P).arg0 = s.arg0 := rfl
@[simp] theorem writePoly_arg1 (k : PReg) (P : Poly) : (s.writePoly k P).arg1 = s.arg1 := rfl
@[simp] theorem writePoly_cfgVersion (k : PReg) (P : Poly) : (s.writePoly k P).cfgVersion = s.cfgVersion := rfl
@[simp] theorem writePoly_cfgEcc (k : PReg) (P : Poly) : (s.writePoly k P).cfgEcc = s.cfgEcc := rfl
@[simp] theorem writePoly_cfgMask (k : PReg) (P : Poly) : (s.writePoly k P).cfgMask = s.cfgMask := rfl
@[simp] theorem writePoly_cfgQz (k : PReg) (P : Poly) : (s.writePoly k P).cfgQz = s.cfgQz := rfl
@[simp] theorem writePoly_dlen (k : PReg) (P : Poly) : (s.writePoly k P).dlen = s.dlen := rfl
@[simp] theorem writePoly_blk (k : PReg) (P : Poly) : (s.writePoly k P).blk = s.blk := rfl
@[simp] theorem writePoly_mtx (k : PReg) (P : Poly) : (s.writePoly k P).mtx = s.mtx := rfl
@[simp] theorem writePoly_pen (k : PReg) (P : Poly) : (s.writePoly k P).pen = s.pen := rfl
@[simp] theorem writePoly_selMask (k : PReg) (P : Poly) : (s.writePoly k P).selMask = s.selMask := rfl
@[simp] theorem writePoly_candInt (k : PReg) (P : Poly) : (s.writePoly k P).candInt = s.candInt := rfl
@[simp] theorem writePoly_candDark (k : PReg) (P : Poly) : (s.writePoly k P).candDark = s.candDark := rfl
@[simp] theorem writePoly_pr (k : PReg) (P : Poly) : (s.writePoly k P).pr = s.pr.set k.index P := rfl
@[simp] theorem writePoly_eco (k : PReg) (P : Poly) : (s.writePoly k P).eco = s.eco := rfl
@[simp] theorem writePoly_syn (k : PReg) (P : Poly) : (s.writePoly k P).syn = s.syn := rfl
@[simp] theorem writePoly_data (k : PReg) (P : Poly) : (s.writePoly k P).data = s.data := rfl
@[simp] theorem writePoly_cw (k : PReg) (P : Poly) : (s.writePoly k P).cw = s.cw := rfl
@[simp] theorem writePoly_agenda (k : PReg) (P : Poly) : (s.writePoly k P).agenda = s.agenda := rfl
@[simp] theorem writePoly_readData (k : PReg) (P : Poly) : (s.writePoly k P).readData = s.readData := rfl
@[simp] theorem writePoly_powerOns (k : PReg) (P : Poly) : (s.writePoly k P).powerOns = s.powerOns := rfl
@[simp] theorem writePoly_abandons (k : PReg) (P : Poly) : (s.writePoly k P).abandons = s.abandons := rfl

/-! ### `writeEco` -/

@[simp] theorem writeEco_ctrl (l : List Byte) : (s.writeEco l).ctrl = s.ctrl := rfl
@[simp] theorem writeEco_status (l : List Byte) : (s.writeEco l).status = s.status := rfl
@[simp] theorem writeEco_cmd (l : List Byte) : (s.writeEco l).cmd = s.cmd := rfl
@[simp] theorem writeEco_errInfo (l : List Byte) : (s.writeEco l).errInfo = s.errInfo := rfl
@[simp] theorem writeEco_result (l : List Byte) : (s.writeEco l).result = s.result := rfl
@[simp] theorem writeEco_arg0 (l : List Byte) : (s.writeEco l).arg0 = s.arg0 := rfl
@[simp] theorem writeEco_arg1 (l : List Byte) : (s.writeEco l).arg1 = s.arg1 := rfl
@[simp] theorem writeEco_cfgVersion (l : List Byte) : (s.writeEco l).cfgVersion = s.cfgVersion := rfl
@[simp] theorem writeEco_cfgEcc (l : List Byte) : (s.writeEco l).cfgEcc = s.cfgEcc := rfl
@[simp] theorem writeEco_cfgMask (l : List Byte) : (s.writeEco l).cfgMask = s.cfgMask := rfl
@[simp] theorem writeEco_cfgQz (l : List Byte) : (s.writeEco l).cfgQz = s.cfgQz := rfl
@[simp] theorem writeEco_dlen (l : List Byte) : (s.writeEco l).dlen = s.dlen := rfl
@[simp] theorem writeEco_blk (l : List Byte) : (s.writeEco l).blk = s.blk := rfl
@[simp] theorem writeEco_mtx (l : List Byte) : (s.writeEco l).mtx = s.mtx := rfl
@[simp] theorem writeEco_pen (l : List Byte) : (s.writeEco l).pen = s.pen := rfl
@[simp] theorem writeEco_selMask (l : List Byte) : (s.writeEco l).selMask = s.selMask := rfl
@[simp] theorem writeEco_candInt (l : List Byte) : (s.writeEco l).candInt = s.candInt := rfl
@[simp] theorem writeEco_candDark (l : List Byte) : (s.writeEco l).candDark = s.candDark := rfl
@[simp] theorem writeEco_pr (l : List Byte) : (s.writeEco l).pr = s.pr := rfl
@[simp] theorem writeEco_eco (l : List Byte) : (s.writeEco l).eco = padTo256 l := rfl
@[simp] theorem writeEco_syn (l : List Byte) : (s.writeEco l).syn = s.syn := rfl
@[simp] theorem writeEco_data (l : List Byte) : (s.writeEco l).data = s.data := rfl
@[simp] theorem writeEco_cw (l : List Byte) : (s.writeEco l).cw = s.cw := rfl
@[simp] theorem writeEco_agenda (l : List Byte) : (s.writeEco l).agenda = s.agenda := rfl
@[simp] theorem writeEco_readData (l : List Byte) : (s.writeEco l).readData = s.readData := rfl
@[simp] theorem writeEco_powerOns (l : List Byte) : (s.writeEco l).powerOns = s.powerOns := rfl
@[simp] theorem writeEco_abandons (l : List Byte) : (s.writeEco l).abandons = s.abandons := rfl

/-! ### `writeSyn` -/

@[simp] theorem writeSyn_ctrl (l : List Byte) : (s.writeSyn l).ctrl = s.ctrl := rfl
@[simp] theorem writeSyn_status (l : List Byte) : (s.writeSyn l).status = s.status := rfl
@[simp] theorem writeSyn_cmd (l : List Byte) : (s.writeSyn l).cmd = s.cmd := rfl
@[simp] theorem writeSyn_errInfo (l : List Byte) : (s.writeSyn l).errInfo = s.errInfo := rfl
@[simp] theorem writeSyn_result (l : List Byte) : (s.writeSyn l).result = s.result := rfl
@[simp] theorem writeSyn_arg0 (l : List Byte) : (s.writeSyn l).arg0 = s.arg0 := rfl
@[simp] theorem writeSyn_arg1 (l : List Byte) : (s.writeSyn l).arg1 = s.arg1 := rfl
@[simp] theorem writeSyn_cfgVersion (l : List Byte) : (s.writeSyn l).cfgVersion = s.cfgVersion := rfl
@[simp] theorem writeSyn_cfgEcc (l : List Byte) : (s.writeSyn l).cfgEcc = s.cfgEcc := rfl
@[simp] theorem writeSyn_cfgMask (l : List Byte) : (s.writeSyn l).cfgMask = s.cfgMask := rfl
@[simp] theorem writeSyn_cfgQz (l : List Byte) : (s.writeSyn l).cfgQz = s.cfgQz := rfl
@[simp] theorem writeSyn_dlen (l : List Byte) : (s.writeSyn l).dlen = s.dlen := rfl
@[simp] theorem writeSyn_blk (l : List Byte) : (s.writeSyn l).blk = s.blk := rfl
@[simp] theorem writeSyn_mtx (l : List Byte) : (s.writeSyn l).mtx = s.mtx := rfl
@[simp] theorem writeSyn_pen (l : List Byte) : (s.writeSyn l).pen = s.pen := rfl
@[simp] theorem writeSyn_selMask (l : List Byte) : (s.writeSyn l).selMask = s.selMask := rfl
@[simp] theorem writeSyn_candInt (l : List Byte) : (s.writeSyn l).candInt = s.candInt := rfl
@[simp] theorem writeSyn_candDark (l : List Byte) : (s.writeSyn l).candDark = s.candDark := rfl
@[simp] theorem writeSyn_pr (l : List Byte) : (s.writeSyn l).pr = s.pr := rfl
@[simp] theorem writeSyn_eco (l : List Byte) : (s.writeSyn l).eco = s.eco := rfl
@[simp] theorem writeSyn_syn (l : List Byte) : (s.writeSyn l).syn = padTo256 l := rfl
@[simp] theorem writeSyn_data (l : List Byte) : (s.writeSyn l).data = s.data := rfl
@[simp] theorem writeSyn_cw (l : List Byte) : (s.writeSyn l).cw = s.cw := rfl
@[simp] theorem writeSyn_agenda (l : List Byte) : (s.writeSyn l).agenda = s.agenda := rfl
@[simp] theorem writeSyn_readData (l : List Byte) : (s.writeSyn l).readData = s.readData := rfl
@[simp] theorem writeSyn_powerOns (l : List Byte) : (s.writeSyn l).powerOns = s.powerOns := rfl
@[simp] theorem writeSyn_abandons (l : List Byte) : (s.writeSyn l).abandons = s.abandons := rfl

/-! ### `writeCwRun` -/

@[simp] theorem writeCwRun_ctrl (l : List Byte) : (s.writeCwRun l).ctrl = s.ctrl := rfl
@[simp] theorem writeCwRun_status (l : List Byte) : (s.writeCwRun l).status = s.status := rfl
@[simp] theorem writeCwRun_cmd (l : List Byte) : (s.writeCwRun l).cmd = s.cmd := rfl
@[simp] theorem writeCwRun_errInfo (l : List Byte) : (s.writeCwRun l).errInfo = s.errInfo := rfl
@[simp] theorem writeCwRun_result (l : List Byte) : (s.writeCwRun l).result = s.result := rfl
@[simp] theorem writeCwRun_arg0 (l : List Byte) : (s.writeCwRun l).arg0 = s.arg0 := rfl
@[simp] theorem writeCwRun_arg1 (l : List Byte) : (s.writeCwRun l).arg1 = s.arg1 := rfl
@[simp] theorem writeCwRun_cfgVersion (l : List Byte) : (s.writeCwRun l).cfgVersion = s.cfgVersion := rfl
@[simp] theorem writeCwRun_cfgEcc (l : List Byte) : (s.writeCwRun l).cfgEcc = s.cfgEcc := rfl
@[simp] theorem writeCwRun_cfgMask (l : List Byte) : (s.writeCwRun l).cfgMask = s.cfgMask := rfl
@[simp] theorem writeCwRun_cfgQz (l : List Byte) : (s.writeCwRun l).cfgQz = s.cfgQz := rfl
@[simp] theorem writeCwRun_dlen (l : List Byte) : (s.writeCwRun l).dlen = s.dlen := rfl
@[simp] theorem writeCwRun_blk (l : List Byte) : (s.writeCwRun l).blk = s.blk := rfl
@[simp] theorem writeCwRun_mtx (l : List Byte) : (s.writeCwRun l).mtx = s.mtx := rfl
@[simp] theorem writeCwRun_pen (l : List Byte) : (s.writeCwRun l).pen = s.pen := rfl
@[simp] theorem writeCwRun_selMask (l : List Byte) : (s.writeCwRun l).selMask = s.selMask := rfl
@[simp] theorem writeCwRun_candInt (l : List Byte) : (s.writeCwRun l).candInt = s.candInt := rfl
@[simp] theorem writeCwRun_candDark (l : List Byte) : (s.writeCwRun l).candDark = s.candDark := rfl
@[simp] theorem writeCwRun_pr (l : List Byte) : (s.writeCwRun l).pr = s.pr := rfl
@[simp] theorem writeCwRun_eco (l : List Byte) : (s.writeCwRun l).eco = s.eco := rfl
@[simp] theorem writeCwRun_syn (l : List Byte) : (s.writeCwRun l).syn = s.syn := rfl
@[simp] theorem writeCwRun_data (l : List Byte) : (s.writeCwRun l).data = s.data := rfl
@[simp] theorem writeCwRun_cw (l : List Byte) : (s.writeCwRun l).cw = s.cw.writeRun 0 l := rfl
@[simp] theorem writeCwRun_agenda (l : List Byte) : (s.writeCwRun l).agenda = s.agenda := rfl
@[simp] theorem writeCwRun_readData (l : List Byte) : (s.writeCwRun l).readData = s.readData := rfl
@[simp] theorem writeCwRun_powerOns (l : List Byte) : (s.writeCwRun l).powerOns = s.powerOns := rfl
@[simp] theorem writeCwRun_abandons (l : List Byte) : (s.writeCwRun l).abandons = s.abandons := rfl

/-! ### `writeBlk` -/

@[simp] theorem writeBlk_ctrl (b : Blk) : (s.writeBlk b).ctrl = s.ctrl := rfl
@[simp] theorem writeBlk_status (b : Blk) : (s.writeBlk b).status = s.status := rfl
@[simp] theorem writeBlk_cmd (b : Blk) : (s.writeBlk b).cmd = s.cmd := rfl
@[simp] theorem writeBlk_errInfo (b : Blk) : (s.writeBlk b).errInfo = s.errInfo := rfl
@[simp] theorem writeBlk_result (b : Blk) : (s.writeBlk b).result = s.result := rfl
@[simp] theorem writeBlk_arg0 (b : Blk) : (s.writeBlk b).arg0 = s.arg0 := rfl
@[simp] theorem writeBlk_arg1 (b : Blk) : (s.writeBlk b).arg1 = s.arg1 := rfl
@[simp] theorem writeBlk_cfgVersion (b : Blk) : (s.writeBlk b).cfgVersion = s.cfgVersion := rfl
@[simp] theorem writeBlk_cfgEcc (b : Blk) : (s.writeBlk b).cfgEcc = s.cfgEcc := rfl
@[simp] theorem writeBlk_cfgMask (b : Blk) : (s.writeBlk b).cfgMask = s.cfgMask := rfl
@[simp] theorem writeBlk_cfgQz (b : Blk) : (s.writeBlk b).cfgQz = s.cfgQz := rfl
@[simp] theorem writeBlk_dlen (b : Blk) : (s.writeBlk b).dlen = s.dlen := rfl
@[simp] theorem writeBlk_blk (b : Blk) : (s.writeBlk b).blk = b := rfl
@[simp] theorem writeBlk_mtx (b : Blk) : (s.writeBlk b).mtx = s.mtx := rfl
@[simp] theorem writeBlk_pen (b : Blk) : (s.writeBlk b).pen = s.pen := rfl
@[simp] theorem writeBlk_selMask (b : Blk) : (s.writeBlk b).selMask = s.selMask := rfl
@[simp] theorem writeBlk_candInt (b : Blk) : (s.writeBlk b).candInt = s.candInt := rfl
@[simp] theorem writeBlk_candDark (b : Blk) : (s.writeBlk b).candDark = s.candDark := rfl
@[simp] theorem writeBlk_pr (b : Blk) : (s.writeBlk b).pr = s.pr := rfl
@[simp] theorem writeBlk_eco (b : Blk) : (s.writeBlk b).eco = s.eco := rfl
@[simp] theorem writeBlk_syn (b : Blk) : (s.writeBlk b).syn = s.syn := rfl
@[simp] theorem writeBlk_data (b : Blk) : (s.writeBlk b).data = s.data := rfl
@[simp] theorem writeBlk_cw (b : Blk) : (s.writeBlk b).cw = s.cw := rfl
@[simp] theorem writeBlk_agenda (b : Blk) : (s.writeBlk b).agenda = s.agenda := rfl
@[simp] theorem writeBlk_readData (b : Blk) : (s.writeBlk b).readData = s.readData := rfl
@[simp] theorem writeBlk_powerOns (b : Blk) : (s.writeBlk b).powerOns = s.powerOns := rfl
@[simp] theorem writeBlk_abandons (b : Blk) : (s.writeBlk b).abandons = s.abandons := rfl

/-! ### `writeMtx` -/

@[simp] theorem writeMtx_ctrl (m : Mtx) : (s.writeMtx m).ctrl = s.ctrl := rfl
@[simp] theorem writeMtx_status (m : Mtx) : (s.writeMtx m).status = s.status := rfl
@[simp] theorem writeMtx_cmd (m : Mtx) : (s.writeMtx m).cmd = s.cmd := rfl
@[simp] theorem writeMtx_errInfo (m : Mtx) : (s.writeMtx m).errInfo = s.errInfo := rfl
@[simp] theorem writeMtx_result (m : Mtx) : (s.writeMtx m).result = s.result := rfl
@[simp] theorem writeMtx_arg0 (m : Mtx) : (s.writeMtx m).arg0 = s.arg0 := rfl
@[simp] theorem writeMtx_arg1 (m : Mtx) : (s.writeMtx m).arg1 = s.arg1 := rfl
@[simp] theorem writeMtx_cfgVersion (m : Mtx) : (s.writeMtx m).cfgVersion = s.cfgVersion := rfl
@[simp] theorem writeMtx_cfgEcc (m : Mtx) : (s.writeMtx m).cfgEcc = s.cfgEcc := rfl
@[simp] theorem writeMtx_cfgMask (m : Mtx) : (s.writeMtx m).cfgMask = s.cfgMask := rfl
@[simp] theorem writeMtx_cfgQz (m : Mtx) : (s.writeMtx m).cfgQz = s.cfgQz := rfl
@[simp] theorem writeMtx_dlen (m : Mtx) : (s.writeMtx m).dlen = s.dlen := rfl
@[simp] theorem writeMtx_blk (m : Mtx) : (s.writeMtx m).blk = s.blk := rfl
@[simp] theorem writeMtx_mtx (m : Mtx) : (s.writeMtx m).mtx = m := rfl
@[simp] theorem writeMtx_pen (m : Mtx) : (s.writeMtx m).pen = s.pen := rfl
@[simp] theorem writeMtx_selMask (m : Mtx) : (s.writeMtx m).selMask = s.selMask := rfl
@[simp] theorem writeMtx_candInt (m : Mtx) : (s.writeMtx m).candInt = s.candInt := rfl
@[simp] theorem writeMtx_candDark (m : Mtx) : (s.writeMtx m).candDark = s.candDark := rfl
@[simp] theorem writeMtx_pr (m : Mtx) : (s.writeMtx m).pr = s.pr := rfl
@[simp] theorem writeMtx_eco (m : Mtx) : (s.writeMtx m).eco = s.eco := rfl
@[simp] theorem writeMtx_syn (m : Mtx) : (s.writeMtx m).syn = s.syn := rfl
@[simp] theorem writeMtx_data (m : Mtx) : (s.writeMtx m).data = s.data := rfl
@[simp] theorem writeMtx_cw (m : Mtx) : (s.writeMtx m).cw = s.cw := rfl
@[simp] theorem writeMtx_agenda (m : Mtx) : (s.writeMtx m).agenda = s.agenda := rfl
@[simp] theorem writeMtx_readData (m : Mtx) : (s.writeMtx m).readData = s.readData := rfl
@[simp] theorem writeMtx_powerOns (m : Mtx) : (s.writeMtx m).powerOns = s.powerOns := rfl
@[simp] theorem writeMtx_abandons (m : Mtx) : (s.writeMtx m).abandons = s.abandons := rfl

/-! ### `writePen` -/

@[simp] theorem writePen_ctrl (p : Pen) : (s.writePen p).ctrl = s.ctrl := rfl
@[simp] theorem writePen_status (p : Pen) : (s.writePen p).status = s.status := rfl
@[simp] theorem writePen_cmd (p : Pen) : (s.writePen p).cmd = s.cmd := rfl
@[simp] theorem writePen_errInfo (p : Pen) : (s.writePen p).errInfo = s.errInfo := rfl
@[simp] theorem writePen_result (p : Pen) : (s.writePen p).result = s.result := rfl
@[simp] theorem writePen_arg0 (p : Pen) : (s.writePen p).arg0 = s.arg0 := rfl
@[simp] theorem writePen_arg1 (p : Pen) : (s.writePen p).arg1 = s.arg1 := rfl
@[simp] theorem writePen_cfgVersion (p : Pen) : (s.writePen p).cfgVersion = s.cfgVersion := rfl
@[simp] theorem writePen_cfgEcc (p : Pen) : (s.writePen p).cfgEcc = s.cfgEcc := rfl
@[simp] theorem writePen_cfgMask (p : Pen) : (s.writePen p).cfgMask = s.cfgMask := rfl
@[simp] theorem writePen_cfgQz (p : Pen) : (s.writePen p).cfgQz = s.cfgQz := rfl
@[simp] theorem writePen_dlen (p : Pen) : (s.writePen p).dlen = s.dlen := rfl
@[simp] theorem writePen_blk (p : Pen) : (s.writePen p).blk = s.blk := rfl
@[simp] theorem writePen_mtx (p : Pen) : (s.writePen p).mtx = s.mtx := rfl
@[simp] theorem writePen_pen (p : Pen) : (s.writePen p).pen = p := rfl
@[simp] theorem writePen_selMask (p : Pen) : (s.writePen p).selMask = s.selMask := rfl
@[simp] theorem writePen_candInt (p : Pen) : (s.writePen p).candInt = s.candInt := rfl
@[simp] theorem writePen_candDark (p : Pen) : (s.writePen p).candDark = s.candDark := rfl
@[simp] theorem writePen_pr (p : Pen) : (s.writePen p).pr = s.pr := rfl
@[simp] theorem writePen_eco (p : Pen) : (s.writePen p).eco = s.eco := rfl
@[simp] theorem writePen_syn (p : Pen) : (s.writePen p).syn = s.syn := rfl
@[simp] theorem writePen_data (p : Pen) : (s.writePen p).data = s.data := rfl
@[simp] theorem writePen_cw (p : Pen) : (s.writePen p).cw = s.cw := rfl
@[simp] theorem writePen_agenda (p : Pen) : (s.writePen p).agenda = s.agenda := rfl
@[simp] theorem writePen_readData (p : Pen) : (s.writePen p).readData = s.readData := rfl
@[simp] theorem writePen_powerOns (p : Pen) : (s.writePen p).powerOns = s.powerOns := rfl
@[simp] theorem writePen_abandons (p : Pen) : (s.writePen p).abandons = s.abandons := rfl

/-! ### `writeSelMask` -/

@[simp] theorem writeSelMask_ctrl (v : Word) : (s.writeSelMask v).ctrl = s.ctrl := rfl
@[simp] theorem writeSelMask_status (v : Word) : (s.writeSelMask v).status = s.status := rfl
@[simp] theorem writeSelMask_cmd (v : Word) : (s.writeSelMask v).cmd = s.cmd := rfl
@[simp] theorem writeSelMask_errInfo (v : Word) : (s.writeSelMask v).errInfo = s.errInfo := rfl
@[simp] theorem writeSelMask_result (v : Word) : (s.writeSelMask v).result = s.result := rfl
@[simp] theorem writeSelMask_arg0 (v : Word) : (s.writeSelMask v).arg0 = s.arg0 := rfl
@[simp] theorem writeSelMask_arg1 (v : Word) : (s.writeSelMask v).arg1 = s.arg1 := rfl
@[simp] theorem writeSelMask_cfgVersion (v : Word) : (s.writeSelMask v).cfgVersion = s.cfgVersion := rfl
@[simp] theorem writeSelMask_cfgEcc (v : Word) : (s.writeSelMask v).cfgEcc = s.cfgEcc := rfl
@[simp] theorem writeSelMask_cfgMask (v : Word) : (s.writeSelMask v).cfgMask = s.cfgMask := rfl
@[simp] theorem writeSelMask_cfgQz (v : Word) : (s.writeSelMask v).cfgQz = s.cfgQz := rfl
@[simp] theorem writeSelMask_dlen (v : Word) : (s.writeSelMask v).dlen = s.dlen := rfl
@[simp] theorem writeSelMask_blk (v : Word) : (s.writeSelMask v).blk = s.blk := rfl
@[simp] theorem writeSelMask_mtx (v : Word) : (s.writeSelMask v).mtx = s.mtx := rfl
@[simp] theorem writeSelMask_pen (v : Word) : (s.writeSelMask v).pen = s.pen := rfl
@[simp] theorem writeSelMask_selMask (v : Word) : (s.writeSelMask v).selMask = v := rfl
@[simp] theorem writeSelMask_candInt (v : Word) : (s.writeSelMask v).candInt = s.candInt := rfl
@[simp] theorem writeSelMask_candDark (v : Word) : (s.writeSelMask v).candDark = s.candDark := rfl
@[simp] theorem writeSelMask_pr (v : Word) : (s.writeSelMask v).pr = s.pr := rfl
@[simp] theorem writeSelMask_eco (v : Word) : (s.writeSelMask v).eco = s.eco := rfl
@[simp] theorem writeSelMask_syn (v : Word) : (s.writeSelMask v).syn = s.syn := rfl
@[simp] theorem writeSelMask_data (v : Word) : (s.writeSelMask v).data = s.data := rfl
@[simp] theorem writeSelMask_cw (v : Word) : (s.writeSelMask v).cw = s.cw := rfl
@[simp] theorem writeSelMask_agenda (v : Word) : (s.writeSelMask v).agenda = s.agenda := rfl
@[simp] theorem writeSelMask_readData (v : Word) : (s.writeSelMask v).readData = s.readData := rfl
@[simp] theorem writeSelMask_powerOns (v : Word) : (s.writeSelMask v).powerOns = s.powerOns := rfl
@[simp] theorem writeSelMask_abandons (v : Word) : (s.writeSelMask v).abandons = s.abandons := rfl

/-! ### `writeCands` -/

@[simp] theorem writeCands_ctrl (a b : Vector Word 8) : (s.writeCands a b).ctrl = s.ctrl := rfl
@[simp] theorem writeCands_status (a b : Vector Word 8) : (s.writeCands a b).status = s.status := rfl
@[simp] theorem writeCands_cmd (a b : Vector Word 8) : (s.writeCands a b).cmd = s.cmd := rfl
@[simp] theorem writeCands_errInfo (a b : Vector Word 8) : (s.writeCands a b).errInfo = s.errInfo := rfl
@[simp] theorem writeCands_result (a b : Vector Word 8) : (s.writeCands a b).result = s.result := rfl
@[simp] theorem writeCands_arg0 (a b : Vector Word 8) : (s.writeCands a b).arg0 = s.arg0 := rfl
@[simp] theorem writeCands_arg1 (a b : Vector Word 8) : (s.writeCands a b).arg1 = s.arg1 := rfl
@[simp] theorem writeCands_cfgVersion (a b : Vector Word 8) : (s.writeCands a b).cfgVersion = s.cfgVersion := rfl
@[simp] theorem writeCands_cfgEcc (a b : Vector Word 8) : (s.writeCands a b).cfgEcc = s.cfgEcc := rfl
@[simp] theorem writeCands_cfgMask (a b : Vector Word 8) : (s.writeCands a b).cfgMask = s.cfgMask := rfl
@[simp] theorem writeCands_cfgQz (a b : Vector Word 8) : (s.writeCands a b).cfgQz = s.cfgQz := rfl
@[simp] theorem writeCands_dlen (a b : Vector Word 8) : (s.writeCands a b).dlen = s.dlen := rfl
@[simp] theorem writeCands_blk (a b : Vector Word 8) : (s.writeCands a b).blk = s.blk := rfl
@[simp] theorem writeCands_mtx (a b : Vector Word 8) : (s.writeCands a b).mtx = s.mtx := rfl
@[simp] theorem writeCands_pen (a b : Vector Word 8) : (s.writeCands a b).pen = s.pen := rfl
@[simp] theorem writeCands_selMask (a b : Vector Word 8) : (s.writeCands a b).selMask = s.selMask := rfl
@[simp] theorem writeCands_candInt (a b : Vector Word 8) : (s.writeCands a b).candInt = a := rfl
@[simp] theorem writeCands_candDark (a b : Vector Word 8) : (s.writeCands a b).candDark = b := rfl
@[simp] theorem writeCands_pr (a b : Vector Word 8) : (s.writeCands a b).pr = s.pr := rfl
@[simp] theorem writeCands_eco (a b : Vector Word 8) : (s.writeCands a b).eco = s.eco := rfl
@[simp] theorem writeCands_syn (a b : Vector Word 8) : (s.writeCands a b).syn = s.syn := rfl
@[simp] theorem writeCands_data (a b : Vector Word 8) : (s.writeCands a b).data = s.data := rfl
@[simp] theorem writeCands_cw (a b : Vector Word 8) : (s.writeCands a b).cw = s.cw := rfl
@[simp] theorem writeCands_agenda (a b : Vector Word 8) : (s.writeCands a b).agenda = s.agenda := rfl
@[simp] theorem writeCands_readData (a b : Vector Word 8) : (s.writeCands a b).readData = s.readData := rfl
@[simp] theorem writeCands_powerOns (a b : Vector Word 8) : (s.writeCands a b).powerOns = s.powerOns := rfl
@[simp] theorem writeCands_abandons (a b : Vector Word 8) : (s.writeCands a b).abandons = s.abandons := rfl

/-! ### `accept` -/

@[simp] theorem accept_ctrl (w : Word) : (s.accept w).ctrl = s.ctrl := rfl
@[simp] theorem accept_status (w : Word) : (s.accept w).status = { s.status with done := false, busy := true } := rfl
@[simp] theorem accept_cmd (w : Word) : (s.accept w).cmd = w := rfl
@[simp] theorem accept_errInfo (w : Word) : (s.accept w).errInfo = s.errInfo := rfl
@[simp] theorem accept_result (w : Word) : (s.accept w).result = s.result := rfl
@[simp] theorem accept_arg0 (w : Word) : (s.accept w).arg0 = s.arg0 := rfl
@[simp] theorem accept_arg1 (w : Word) : (s.accept w).arg1 = s.arg1 := rfl
@[simp] theorem accept_cfgVersion (w : Word) : (s.accept w).cfgVersion = s.cfgVersion := rfl
@[simp] theorem accept_cfgEcc (w : Word) : (s.accept w).cfgEcc = s.cfgEcc := rfl
@[simp] theorem accept_cfgMask (w : Word) : (s.accept w).cfgMask = s.cfgMask := rfl
@[simp] theorem accept_cfgQz (w : Word) : (s.accept w).cfgQz = s.cfgQz := rfl
@[simp] theorem accept_dlen (w : Word) : (s.accept w).dlen = s.dlen := rfl
@[simp] theorem accept_blk (w : Word) : (s.accept w).blk = s.blk := rfl
@[simp] theorem accept_mtx (w : Word) : (s.accept w).mtx = s.mtx := rfl
@[simp] theorem accept_pen (w : Word) : (s.accept w).pen = s.pen := rfl
@[simp] theorem accept_selMask (w : Word) : (s.accept w).selMask = s.selMask := rfl
@[simp] theorem accept_candInt (w : Word) : (s.accept w).candInt = s.candInt := rfl
@[simp] theorem accept_candDark (w : Word) : (s.accept w).candDark = s.candDark := rfl
@[simp] theorem accept_pr (w : Word) : (s.accept w).pr = s.pr := rfl
@[simp] theorem accept_eco (w : Word) : (s.accept w).eco = s.eco := rfl
@[simp] theorem accept_syn (w : Word) : (s.accept w).syn = s.syn := rfl
@[simp] theorem accept_data (w : Word) : (s.accept w).data = s.data := rfl
@[simp] theorem accept_cw (w : Word) : (s.accept w).cw = s.cw := rfl
@[simp] theorem accept_agenda (w : Word) : (s.accept w).agenda = s.agenda := rfl
@[simp] theorem accept_readData (w : Word) : (s.accept w).readData = s.readData := rfl
@[simp] theorem accept_powerOns (w : Word) : (s.accept w).powerOns = s.powerOns := rfl
@[simp] theorem accept_abandons (w : Word) : (s.accept w).abandons = s.abandons := rfl

/-! ### `complete` -/

@[simp] theorem complete_ctrl : (s.complete).ctrl = s.ctrl := rfl
@[simp] theorem complete_status : (s.complete).status = { s.status with done := true, busy := false } := rfl
@[simp] theorem complete_cmd : (s.complete).cmd = s.cmd := rfl
@[simp] theorem complete_errInfo : (s.complete).errInfo = s.errInfo := rfl
@[simp] theorem complete_result : (s.complete).result = s.result := rfl
@[simp] theorem complete_arg0 : (s.complete).arg0 = s.arg0 := rfl
@[simp] theorem complete_arg1 : (s.complete).arg1 = s.arg1 := rfl
@[simp] theorem complete_cfgVersion : (s.complete).cfgVersion = s.cfgVersion := rfl
@[simp] theorem complete_cfgEcc : (s.complete).cfgEcc = s.cfgEcc := rfl
@[simp] theorem complete_cfgMask : (s.complete).cfgMask = s.cfgMask := rfl
@[simp] theorem complete_cfgQz : (s.complete).cfgQz = s.cfgQz := rfl
@[simp] theorem complete_dlen : (s.complete).dlen = s.dlen := rfl
@[simp] theorem complete_blk : (s.complete).blk = s.blk := rfl
@[simp] theorem complete_mtx : (s.complete).mtx = s.mtx := rfl
@[simp] theorem complete_pen : (s.complete).pen = s.pen := rfl
@[simp] theorem complete_selMask : (s.complete).selMask = s.selMask := rfl
@[simp] theorem complete_candInt : (s.complete).candInt = s.candInt := rfl
@[simp] theorem complete_candDark : (s.complete).candDark = s.candDark := rfl
@[simp] theorem complete_pr : (s.complete).pr = s.pr := rfl
@[simp] theorem complete_eco : (s.complete).eco = s.eco := rfl
@[simp] theorem complete_syn : (s.complete).syn = s.syn := rfl
@[simp] theorem complete_data : (s.complete).data = s.data := rfl
@[simp] theorem complete_cw : (s.complete).cw = s.cw := rfl
@[simp] theorem complete_agenda : (s.complete).agenda = s.agenda := rfl
@[simp] theorem complete_readData : (s.complete).readData = s.readData := rfl
@[simp] theorem complete_powerOns : (s.complete).powerOns = s.powerOns := rfl
@[simp] theorem complete_abandons : (s.complete).abandons = s.abandons := rfl

/-! ### `raiseErr` -/

@[simp] theorem raiseErr_ctrl (e : CmdErr) : (s.raiseErr e).ctrl = s.ctrl := rfl
@[simp] theorem raiseErr_status (e : CmdErr) : (s.raiseErr e).status = { s.status with err := true, errCode := e.code.code, busy := false } := rfl
@[simp] theorem raiseErr_cmd (e : CmdErr) : (s.raiseErr e).cmd = s.cmd := rfl
@[simp] theorem raiseErr_errInfo (e : CmdErr) : (s.raiseErr e).errInfo = e.info := rfl
@[simp] theorem raiseErr_result (e : CmdErr) : (s.raiseErr e).result = s.result := rfl
@[simp] theorem raiseErr_arg0 (e : CmdErr) : (s.raiseErr e).arg0 = s.arg0 := rfl
@[simp] theorem raiseErr_arg1 (e : CmdErr) : (s.raiseErr e).arg1 = s.arg1 := rfl
@[simp] theorem raiseErr_cfgVersion (e : CmdErr) : (s.raiseErr e).cfgVersion = s.cfgVersion := rfl
@[simp] theorem raiseErr_cfgEcc (e : CmdErr) : (s.raiseErr e).cfgEcc = s.cfgEcc := rfl
@[simp] theorem raiseErr_cfgMask (e : CmdErr) : (s.raiseErr e).cfgMask = s.cfgMask := rfl
@[simp] theorem raiseErr_cfgQz (e : CmdErr) : (s.raiseErr e).cfgQz = s.cfgQz := rfl
@[simp] theorem raiseErr_dlen (e : CmdErr) : (s.raiseErr e).dlen = s.dlen := rfl
@[simp] theorem raiseErr_blk (e : CmdErr) : (s.raiseErr e).blk = s.blk := rfl
@[simp] theorem raiseErr_mtx (e : CmdErr) : (s.raiseErr e).mtx = s.mtx := rfl
@[simp] theorem raiseErr_pen (e : CmdErr) : (s.raiseErr e).pen = s.pen := rfl
@[simp] theorem raiseErr_selMask (e : CmdErr) : (s.raiseErr e).selMask = s.selMask := rfl
@[simp] theorem raiseErr_candInt (e : CmdErr) : (s.raiseErr e).candInt = s.candInt := rfl
@[simp] theorem raiseErr_candDark (e : CmdErr) : (s.raiseErr e).candDark = s.candDark := rfl
@[simp] theorem raiseErr_pr (e : CmdErr) : (s.raiseErr e).pr = s.pr := rfl
@[simp] theorem raiseErr_eco (e : CmdErr) : (s.raiseErr e).eco = s.eco := rfl
@[simp] theorem raiseErr_syn (e : CmdErr) : (s.raiseErr e).syn = s.syn := rfl
@[simp] theorem raiseErr_data (e : CmdErr) : (s.raiseErr e).data = s.data := rfl
@[simp] theorem raiseErr_cw (e : CmdErr) : (s.raiseErr e).cw = s.cw := rfl
@[simp] theorem raiseErr_agenda (e : CmdErr) : (s.raiseErr e).agenda = s.agenda := rfl
@[simp] theorem raiseErr_readData (e : CmdErr) : (s.raiseErr e).readData = s.readData := rfl
@[simp] theorem raiseErr_powerOns (e : CmdErr) : (s.raiseErr e).powerOns = s.powerOns := rfl
@[simp] theorem raiseErr_abandons (e : CmdErr) : (s.raiseErr e).abandons = s.abandons := rfl

/-! ### `ackErr` -/

@[simp] theorem ackErr_ctrl : (s.ackErr).ctrl = s.ctrl := rfl
@[simp] theorem ackErr_status : (s.ackErr).status = { s.status with err := false, errCode := 0 } := rfl
@[simp] theorem ackErr_cmd : (s.ackErr).cmd = s.cmd := rfl
@[simp] theorem ackErr_errInfo : (s.ackErr).errInfo = 0 := rfl
@[simp] theorem ackErr_result : (s.ackErr).result = s.result := rfl
@[simp] theorem ackErr_arg0 : (s.ackErr).arg0 = s.arg0 := rfl
@[simp] theorem ackErr_arg1 : (s.ackErr).arg1 = s.arg1 := rfl
@[simp] theorem ackErr_cfgVersion : (s.ackErr).cfgVersion = s.cfgVersion := rfl
@[simp] theorem ackErr_cfgEcc : (s.ackErr).cfgEcc = s.cfgEcc := rfl
@[simp] theorem ackErr_cfgMask : (s.ackErr).cfgMask = s.cfgMask := rfl
@[simp] theorem ackErr_cfgQz : (s.ackErr).cfgQz = s.cfgQz := rfl
@[simp] theorem ackErr_dlen : (s.ackErr).dlen = s.dlen := rfl
@[simp] theorem ackErr_blk : (s.ackErr).blk = s.blk := rfl
@[simp] theorem ackErr_mtx : (s.ackErr).mtx = s.mtx := rfl
@[simp] theorem ackErr_pen : (s.ackErr).pen = s.pen := rfl
@[simp] theorem ackErr_selMask : (s.ackErr).selMask = s.selMask := rfl
@[simp] theorem ackErr_candInt : (s.ackErr).candInt = s.candInt := rfl
@[simp] theorem ackErr_candDark : (s.ackErr).candDark = s.candDark := rfl
@[simp] theorem ackErr_pr : (s.ackErr).pr = s.pr := rfl
@[simp] theorem ackErr_eco : (s.ackErr).eco = s.eco := rfl
@[simp] theorem ackErr_syn : (s.ackErr).syn = s.syn := rfl
@[simp] theorem ackErr_data : (s.ackErr).data = s.data := rfl
@[simp] theorem ackErr_cw : (s.ackErr).cw = s.cw := rfl
@[simp] theorem ackErr_agenda : (s.ackErr).agenda = s.agenda := rfl
@[simp] theorem ackErr_readData : (s.ackErr).readData = s.readData := rfl
@[simp] theorem ackErr_powerOns : (s.ackErr).powerOns = s.powerOns := rfl
@[simp] theorem ackErr_abandons : (s.ackErr).abandons = s.abandons := rfl

/-! ### `accessError` -/

@[simp] theorem accessError_ctrl : (s.accessError).ctrl = s.ctrl := rfl
@[simp] theorem accessError_status : (s.accessError).status = { s.status with accErr := true } := rfl
@[simp] theorem accessError_cmd : (s.accessError).cmd = s.cmd := rfl
@[simp] theorem accessError_errInfo : (s.accessError).errInfo = s.errInfo := rfl
@[simp] theorem accessError_result : (s.accessError).result = s.result := rfl
@[simp] theorem accessError_arg0 : (s.accessError).arg0 = s.arg0 := rfl
@[simp] theorem accessError_arg1 : (s.accessError).arg1 = s.arg1 := rfl
@[simp] theorem accessError_cfgVersion : (s.accessError).cfgVersion = s.cfgVersion := rfl
@[simp] theorem accessError_cfgEcc : (s.accessError).cfgEcc = s.cfgEcc := rfl
@[simp] theorem accessError_cfgMask : (s.accessError).cfgMask = s.cfgMask := rfl
@[simp] theorem accessError_cfgQz : (s.accessError).cfgQz = s.cfgQz := rfl
@[simp] theorem accessError_dlen : (s.accessError).dlen = s.dlen := rfl
@[simp] theorem accessError_blk : (s.accessError).blk = s.blk := rfl
@[simp] theorem accessError_mtx : (s.accessError).mtx = s.mtx := rfl
@[simp] theorem accessError_pen : (s.accessError).pen = s.pen := rfl
@[simp] theorem accessError_selMask : (s.accessError).selMask = s.selMask := rfl
@[simp] theorem accessError_candInt : (s.accessError).candInt = s.candInt := rfl
@[simp] theorem accessError_candDark : (s.accessError).candDark = s.candDark := rfl
@[simp] theorem accessError_pr : (s.accessError).pr = s.pr := rfl
@[simp] theorem accessError_eco : (s.accessError).eco = s.eco := rfl
@[simp] theorem accessError_syn : (s.accessError).syn = s.syn := rfl
@[simp] theorem accessError_data : (s.accessError).data = s.data := rfl
@[simp] theorem accessError_cw : (s.accessError).cw = s.cw := rfl
@[simp] theorem accessError_agenda : (s.accessError).agenda = s.agenda := rfl
@[simp] theorem accessError_readData : (s.accessError).readData = s.readData := rfl
@[simp] theorem accessError_powerOns : (s.accessError).powerOns = s.powerOns := rfl
@[simp] theorem accessError_abandons : (s.accessError).abandons = s.abandons := rfl

/-! ### `ignoreCmd` -/

@[simp] theorem ignoreCmd_ctrl : (s.ignoreCmd).ctrl = s.ctrl := rfl
@[simp] theorem ignoreCmd_status : (s.ignoreCmd).status = { s.status with cmdIgn := true } := rfl
@[simp] theorem ignoreCmd_cmd : (s.ignoreCmd).cmd = s.cmd := rfl
@[simp] theorem ignoreCmd_errInfo : (s.ignoreCmd).errInfo = s.errInfo := rfl
@[simp] theorem ignoreCmd_result : (s.ignoreCmd).result = s.result := rfl
@[simp] theorem ignoreCmd_arg0 : (s.ignoreCmd).arg0 = s.arg0 := rfl
@[simp] theorem ignoreCmd_arg1 : (s.ignoreCmd).arg1 = s.arg1 := rfl
@[simp] theorem ignoreCmd_cfgVersion : (s.ignoreCmd).cfgVersion = s.cfgVersion := rfl
@[simp] theorem ignoreCmd_cfgEcc : (s.ignoreCmd).cfgEcc = s.cfgEcc := rfl
@[simp] theorem ignoreCmd_cfgMask : (s.ignoreCmd).cfgMask = s.cfgMask := rfl
@[simp] theorem ignoreCmd_cfgQz : (s.ignoreCmd).cfgQz = s.cfgQz := rfl
@[simp] theorem ignoreCmd_dlen : (s.ignoreCmd).dlen = s.dlen := rfl
@[simp] theorem ignoreCmd_blk : (s.ignoreCmd).blk = s.blk := rfl
@[simp] theorem ignoreCmd_mtx : (s.ignoreCmd).mtx = s.mtx := rfl
@[simp] theorem ignoreCmd_pen : (s.ignoreCmd).pen = s.pen := rfl
@[simp] theorem ignoreCmd_selMask : (s.ignoreCmd).selMask = s.selMask := rfl
@[simp] theorem ignoreCmd_candInt : (s.ignoreCmd).candInt = s.candInt := rfl
@[simp] theorem ignoreCmd_candDark : (s.ignoreCmd).candDark = s.candDark := rfl
@[simp] theorem ignoreCmd_pr : (s.ignoreCmd).pr = s.pr := rfl
@[simp] theorem ignoreCmd_eco : (s.ignoreCmd).eco = s.eco := rfl
@[simp] theorem ignoreCmd_syn : (s.ignoreCmd).syn = s.syn := rfl
@[simp] theorem ignoreCmd_data : (s.ignoreCmd).data = s.data := rfl
@[simp] theorem ignoreCmd_cw : (s.ignoreCmd).cw = s.cw := rfl
@[simp] theorem ignoreCmd_agenda : (s.ignoreCmd).agenda = s.agenda := rfl
@[simp] theorem ignoreCmd_readData : (s.ignoreCmd).readData = s.readData := rfl
@[simp] theorem ignoreCmd_powerOns : (s.ignoreCmd).powerOns = s.powerOns := rfl
@[simp] theorem ignoreCmd_abandons : (s.ignoreCmd).abandons = s.abandons := rfl

/-! ### The resets -/

@[simp] theorem resetRegisters_ctrl : (s.resetRegisters).ctrl = State.reset.ctrl := rfl
@[simp] theorem resetRegisters_status : (s.resetRegisters).status = State.reset.status := rfl
@[simp] theorem resetRegisters_cmd : (s.resetRegisters).cmd = State.reset.cmd := rfl
@[simp] theorem resetRegisters_errInfo : (s.resetRegisters).errInfo = State.reset.errInfo := rfl
@[simp] theorem resetRegisters_result : (s.resetRegisters).result = State.reset.result := rfl
@[simp] theorem resetRegisters_arg0 : (s.resetRegisters).arg0 = State.reset.arg0 := rfl
@[simp] theorem resetRegisters_arg1 : (s.resetRegisters).arg1 = State.reset.arg1 := rfl
@[simp] theorem resetRegisters_cfgVersion : (s.resetRegisters).cfgVersion = State.reset.cfgVersion := rfl
@[simp] theorem resetRegisters_cfgEcc : (s.resetRegisters).cfgEcc = State.reset.cfgEcc := rfl
@[simp] theorem resetRegisters_cfgMask : (s.resetRegisters).cfgMask = State.reset.cfgMask := rfl
@[simp] theorem resetRegisters_cfgQz : (s.resetRegisters).cfgQz = State.reset.cfgQz := rfl
@[simp] theorem resetRegisters_dlen : (s.resetRegisters).dlen = State.reset.dlen := rfl
@[simp] theorem resetRegisters_blk : (s.resetRegisters).blk = State.reset.blk := rfl
@[simp] theorem resetRegisters_mtx : (s.resetRegisters).mtx = State.reset.mtx := rfl
@[simp] theorem resetRegisters_pen : (s.resetRegisters).pen = State.reset.pen := rfl
@[simp] theorem resetRegisters_selMask : (s.resetRegisters).selMask = State.reset.selMask := rfl
@[simp] theorem resetRegisters_candInt : (s.resetRegisters).candInt = State.reset.candInt := rfl
@[simp] theorem resetRegisters_candDark : (s.resetRegisters).candDark = State.reset.candDark := rfl
@[simp] theorem resetRegisters_pr : (s.resetRegisters).pr = State.reset.pr := rfl
@[simp] theorem resetRegisters_eco : (s.resetRegisters).eco = State.reset.eco := rfl
@[simp] theorem resetRegisters_syn : (s.resetRegisters).syn = State.reset.syn := rfl
@[simp] theorem resetRegisters_data : (s.resetRegisters).data = s.data := rfl
@[simp] theorem resetRegisters_cw : (s.resetRegisters).cw = s.cw := rfl
@[simp] theorem resetRegisters_agenda : (s.resetRegisters).agenda = s.agenda := rfl
@[simp] theorem resetRegisters_readData : (s.resetRegisters).readData = s.readData := rfl
@[simp] theorem resetRegisters_powerOns : (s.resetRegisters).powerOns = s.powerOns := rfl
@[simp] theorem resetRegisters_abandons : (s.resetRegisters).abandons = s.abandons := rfl

@[simp] theorem powerOnReset_ctrl : (s.powerOnReset).ctrl = State.reset.ctrl := rfl
@[simp] theorem powerOnReset_status : (s.powerOnReset).status = State.reset.status := rfl
@[simp] theorem powerOnReset_cmd : (s.powerOnReset).cmd = State.reset.cmd := rfl
@[simp] theorem powerOnReset_errInfo : (s.powerOnReset).errInfo = State.reset.errInfo := rfl
@[simp] theorem powerOnReset_result : (s.powerOnReset).result = State.reset.result := rfl
@[simp] theorem powerOnReset_arg0 : (s.powerOnReset).arg0 = State.reset.arg0 := rfl
@[simp] theorem powerOnReset_arg1 : (s.powerOnReset).arg1 = State.reset.arg1 := rfl
@[simp] theorem powerOnReset_cfgVersion : (s.powerOnReset).cfgVersion = State.reset.cfgVersion := rfl
@[simp] theorem powerOnReset_cfgEcc : (s.powerOnReset).cfgEcc = State.reset.cfgEcc := rfl
@[simp] theorem powerOnReset_cfgMask : (s.powerOnReset).cfgMask = State.reset.cfgMask := rfl
@[simp] theorem powerOnReset_cfgQz : (s.powerOnReset).cfgQz = State.reset.cfgQz := rfl
@[simp] theorem powerOnReset_dlen : (s.powerOnReset).dlen = State.reset.dlen := rfl
@[simp] theorem powerOnReset_blk : (s.powerOnReset).blk = State.reset.blk := rfl
@[simp] theorem powerOnReset_mtx : (s.powerOnReset).mtx = State.reset.mtx := rfl
@[simp] theorem powerOnReset_pen : (s.powerOnReset).pen = State.reset.pen := rfl
@[simp] theorem powerOnReset_selMask : (s.powerOnReset).selMask = State.reset.selMask := rfl
@[simp] theorem powerOnReset_candInt : (s.powerOnReset).candInt = State.reset.candInt := rfl
@[simp] theorem powerOnReset_candDark : (s.powerOnReset).candDark = State.reset.candDark := rfl
@[simp] theorem powerOnReset_pr : (s.powerOnReset).pr = State.reset.pr := rfl
@[simp] theorem powerOnReset_eco : (s.powerOnReset).eco = State.reset.eco := rfl
@[simp] theorem powerOnReset_syn : (s.powerOnReset).syn = State.reset.syn := rfl
@[simp] theorem powerOnReset_data : (s.powerOnReset).data = [] := rfl
@[simp] theorem powerOnReset_cw : (s.powerOnReset).cw = [] := rfl
@[simp] theorem powerOnReset_agenda : (s.powerOnReset).agenda = s.agenda := rfl
@[simp] theorem powerOnReset_readData : (s.powerOnReset).readData = s.readData := rfl
@[simp] theorem powerOnReset_powerOns : (s.powerOnReset).powerOns = s.powerOns + 1 := rfl
@[simp] theorem powerOnReset_abandons : (s.powerOnReset).abandons = s.abandons := rfl

end

end Sys2Proof.Machine
end

