-- ==== Sys2Proof/Laws/Memory.lean ====
section
/-! SUPPORT. The laws of the sparse memories: a read after a write, every other entry, and the canonical form. -/

namespace Sys2Proof.Machine

/-- The entries a run of bytes writes, in order. -/
theorem mem_runEntries {bs : List Byte} {i : Nat} {c : Host.Cell} :
    c ∈ (bs.zipIdx i).map (fun p => (p.2, p.1)) ↔ i ≤ c.1 ∧ c.1 < i + bs.length ∧ bs[c.1 - i]? = some c.2 := by
  obtain ⟨k, b⟩ := c
  simp only [List.mem_map, Prod.mk.injEq, Prod.exists, List.mem_zipIdx_iff_le_and_getElem?_sub]
  constructor
  · rintro ⟨b', k', ⟨hle, hget⟩, rfl, rfl⟩
    have := (List.getElem?_eq_some_iff.mp hget).1
    exact ⟨hle, by omega, hget⟩
  · rintro ⟨hle, -, hget⟩
    exact ⟨b, k, ⟨hle, hget⟩, rfl, rfl⟩

theorem runEntries_pairwise (bs : List Byte) (i : Nat) :
    List.Pairwise (fun a b : Host.Cell => a.1 < b.1) ((bs.zipIdx i).map (fun p => (p.2, p.1))) := by
  induction bs generalizing i with
  | nil => simp
  | cons b bs ih =>
    simp only [List.zipIdx_cons, List.map_cons, List.pairwise_cons]
    refine ⟨fun c hc => ?_, ih (i + 1)⟩
    have := (mem_runEntries.mp hc).1
    omega

/-- Every write keeps the canonical form, as long as it stays inside the memory. -/
theorem Memory.writeRun_wf {m : Memory} {i : Nat} {bs : List Byte} (h : m.wf) (hb : i + bs.length ≤ Config.memEntries) :
    (m.writeRun i bs).wf := by
  obtain ⟨hp, hr⟩ := h
  refine ⟨?_, ?_⟩
  · simp only [Memory.writeRun, List.append_assoc, List.pairwise_append]
    refine ⟨hp.filter _, ⟨runEntries_pairwise bs i, hp.filter _, ?_⟩, ?_⟩
    · intro a ha b hb'
      have h1 := (mem_runEntries.mp ha).2.1
      have h2 := (List.mem_filter.mp hb').2
      simp only [decide_eq_true_eq] at h2
      omega
    · intro a ha b hb'
      have h1 := (List.mem_filter.mp ha).2
      simp only [decide_eq_true_eq] at h1
      rcases List.mem_append.mp hb' with h2 | h2
      · have := (mem_runEntries.mp h2).1
        omega
      · have := (List.mem_filter.mp h2).2
        simp only [decide_eq_true_eq] at this
        omega
  · intro c hc
    simp only [Memory.writeRun, List.mem_append] at hc
    rcases hc with (hc | hc) | hc
    · exact hr c (List.mem_filter.mp hc).1
    · have := (mem_runEntries.mp hc).2.1
      omega
    · exact hr c (List.mem_filter.mp hc).1

theorem lookup_runEntries (bs : List Byte) (i k : Nat) :
    ((bs.zipIdx i).map (fun p => (p.2, p.1))).lookup k = if k < i then none else bs[k - i]? := by
  induction bs generalizing i with
  | nil => simp
  | cons b bs ih =>
    simp only [List.zipIdx_cons, List.map_cons, List.lookup_cons, ih]
    by_cases hk : k = i
    · subst hk; simp
    · have : (k == i) = false := by simpa using hk
      simp only [this]
      by_cases hlt : k < i
      · simp [hlt, Nat.lt_succ_of_lt hlt]
      · have h1 : ¬ k < i + 1 := by omega
        have h2 : k - i = (k - (i + 1)) + 1 := by omega
        simp [hlt, h1, h2]

theorem lookup_filter_of_keeps (m : Memory) (p : Host.Cell → Bool) (k : Nat)
    (h : ∀ b, p (k, b) = true) : (m.filter p).lookup k = m.lookup k := by
  induction m with
  | nil => rfl
  | cons c m ih =>
    obtain ⟨k', b⟩ := c
    by_cases hk : k = k'
    · subst hk; simp [h]
    · have hne : (k == k') = false := by simpa using hk
      by_cases hp : p (k', b) = true
      · simp [hp, List.lookup_cons, hne, ih]
      · simp [hp, List.lookup_cons, hne, ih]

theorem lookup_filter_of_drops (m : Memory) (p : Host.Cell → Bool) (k : Nat)
    (h : ∀ b, p (k, b) = false) : (m.filter p).lookup k = none := by
  induction m with
  | nil => rfl
  | cons c m ih =>
    obtain ⟨k', b⟩ := c
    by_cases hk : k = k'
    · subst hk; simp [h, ih]
    · have hne : (k == k') = false := by simpa using hk
      by_cases hp : p (k', b) = true
      · simp [hp, List.lookup_cons, hne, ih]
      · simp [hp, ih]

/-- All a write does to what an entry reads as: a written entry reads the byte written, every other as before. -/
theorem Memory.read?_writeRun (m : Memory) (i : Nat) (bs : List Byte) (k : Nat) :
    (m.writeRun i bs).read? k = if i ≤ k ∧ k < i + bs.length then bs[k - i]? else m.read? k := by
  simp only [Memory.read?, Memory.writeRun, List.lookup_append, lookup_runEntries]
  by_cases h1 : k < i
  · have hf : (m.filter fun c => decide (c.1 < i)).lookup k = m.lookup k :=
      lookup_filter_of_keeps m _ k (by simp [h1])
    have hg : (m.filter fun c => decide (i + bs.length ≤ c.1)).lookup k = none :=
      lookup_filter_of_drops m _ k (by intro b; simp; omega)
    have : ¬ (i ≤ k ∧ k < i + bs.length) := by omega
    simp [hf, hg, h1, this]
  · have hf : (m.filter fun c => decide (c.1 < i)).lookup k = none :=
      lookup_filter_of_drops m _ k (by simp; omega)
    by_cases h2 : k < i + bs.length
    · have hg : (m.filter fun c => decide (i + bs.length ≤ c.1)).lookup k = none :=
        lookup_filter_of_drops m _ k (by intro b; simp; omega)
      have h3 : i ≤ k ∧ k < i + bs.length := by omega
      simp [hf, hg, h1, h3]
    · have hg : (m.filter fun c => decide (i + bs.length ≤ c.1)).lookup k = m.lookup k :=
        lookup_filter_of_keeps m _ k (by intro b; simp; omega)
      have h3 : ¬ (i ≤ k ∧ k < i + bs.length) := by omega
      have h4 : bs[k - i]? = none := by rw [List.getElem?_eq_none]; omega
      simp [hf, hg, h1, h3, h4]

theorem Memory.write_wf {m : Memory} {i : Nat} {b : Byte} (h : m.wf) (hi : i < Config.memEntries) : (m.write i b).wf :=
  writeRun_wf h (by simpa using hi)

@[simp] theorem Memory.read?_write_same (m : Memory) (i : Nat) (b : Byte) : (m.write i b).read? i = some b := by
  simp [Memory.write, read?_writeRun]

theorem Memory.read?_write_other (m : Memory) {i k : Nat} (b : Byte) (h : k ≠ i) :
    (m.write i b).read? k = m.read? k := by
  simp only [Memory.write, read?_writeRun, List.length_singleton]
  rw [if_neg (by omega)]

theorem Memory.nil_wf : Memory.wf [] := ⟨List.Pairwise.nil, fun _ h => nomatch h⟩

theorem reset_memories_wf : (State.reset.data).wf ∧ (State.reset.cw).wf := ⟨Memory.nil_wf, Memory.nil_wf⟩

end Sys2Proof.Machine
end

