-- ==== Sys2Proof/Laws/Ops.lean ====
section
/-! SUPPORT. What each shared operation can do, said once: the end of a completion step, the checks, and the operand
reads. The provers cite these and unfold none of them. -/

namespace Sys2Proof.Machine

/-! ## The end of a completion step -/

@[simp] theorem finish_ok (s t : State) : finish s (.ok t) = .next t.complete := rfl

@[simp] theorem finish_error (s : State) (e : CmdErr) : finish s (.error e) = .next (s.raiseErr e) := rfl

/-- If a completion step answers `t`, it is the successful completion of what the body gave, or the error completion of what it
raised, on the state it started from. -/
theorem finish_eq_next {s t : State} {r : Except CmdErr State} (h : finish s r = .next t) :
    (∃ u, r = .ok u ∧ t = u.complete) ∨ (∃ e, r = .error e ∧ t = s.raiseErr e) := by
  cases r with
  | ok u => exact .inl ⟨u, rfl, by simpa using h.symm⟩
  | error e => exact .inr ⟨e, rfl, by simpa using h.symm⟩

theorem finish_answers (s : State) (r : Except CmdErr State) : ∃ t, finish s r = .next t := by
  cases r <;> simp

/-- Every code is one of 1 to 9. -/
theorem ErrCode.code_range (e : ErrCode) : 1 ≤ e.code.toNat ∧ e.code.toNat ≤ 9 := by cases e <;> decide

/-! ## The checks -/

theorem checkRange_ok {s : State} (h : s.start + s.count ≤ Config.memEntries) : s.checkRange = .ok () := by
  rw [State.checkRange, if_neg (by omega)]

theorem checkRange_error {s : State} (h : Config.memEntries < s.start + s.count) :
    s.checkRange = .error { code := .range, info := wordOf (s.start + s.count) } := by
  rw [State.checkRange, if_pos h]

theorem checkConfig_ok {s : State} (h : 1 ≤ s.version ∧ s.version ≤ 40) :
    s.checkConfig = .ok (blockTable s.version s.level) := by
  rw [State.checkConfig, if_pos h]

theorem checkConfig_error {s : State} (h : ¬ (1 ≤ s.version ∧ s.version ≤ 40)) :
    s.checkConfig = .error { code := .invalidOption, info := s.cfgVersion.setWidth 32 } := by
  rw [State.checkConfig, if_neg h]

/-- If the configuration check passes, the version is legal and the parameters are the table's. -/
theorem checkConfig_eq_ok {s : State} {P : BlockParams} (h : s.checkConfig = .ok P) :
    (1 ≤ s.version ∧ s.version ≤ 40) ∧ P = blockTable s.version s.level := by
  unfold State.checkConfig at h
  split at h
  · next hv => exact ⟨hv, by simpa using h.symm⟩
  · cases h

theorem checkCount_ok {s : State} {P : BlockParams} (h : s.dlen.toNat = P.tdata) : s.checkCount P = .ok () := by
  rw [State.checkCount, if_pos h]

theorem checkCount_error {s : State} {P : BlockParams} (h : s.dlen.toNat ≠ P.tdata) :
    s.checkCount P = .error { code := .cwCount, info := wordOf P.tdata <<< 16 ||| s.dlen.setWidth 32 } := by
  rw [State.checkCount, if_neg h]

theorem checkPolyLen_ok {n : Nat} (h : n ≤ Config.polyMax) : checkPolyLen n = .ok () := by
  rw [checkPolyLen, if_neg (by omega)]

theorem checkPolyLen_error {n : Nat} (h : Config.polyMax < n) :
    checkPolyLen n = .error { code := .polyLen, info := wordOf n } := by
  rw [checkPolyLen, if_pos h]

/-! ## Operand reads -/

@[simp] theorem stream_length (s : State) (src : Src) : (s.stream src).length = s.count := by
  simp [State.stream]

@[simp] theorem prefixOf_length (s : State) (src : Src) (n : Nat) : (s.prefixOf src n).length = n := by
  simp [State.prefixOf]

theorem stream_getElem? (s : State) (src : Src) {j : Nat} (h : j < s.count) :
    (s.stream src)[j]? = some (s.readSrc src (s.start + j)) := by
  simp [State.stream, h]

theorem prefixOf_getElem? (s : State) (src : Src) {n i : Nat} (h : i < n) :
    (s.prefixOf src n)[i]? = some (s.readSrc src i) := by
  simp [State.prefixOf, h]

/-! ## Polynomial registers -/

theorem PReg.index_injective {a b : PReg} (h : a.index = b.index) : a = b := by
  revert h; cases a <;> cases b <;> decide

@[simp] theorem readPoly_writePoly_same (s : State) (k : PReg) (P : Poly) : (s.writePoly k P).readPoly k = P := by
  simp [State.readPoly, State.writePoly]

theorem readPoly_writePoly_other (s : State) {k l : PReg} (P : Poly) (h : l ≠ k) :
    (s.writePoly k P).readPoly l = s.readPoly l := by
  have : k.index.val ≠ l.index.val := fun e => h (PReg.index_injective (Fin.ext e)).symm
  simp [State.readPoly, State.writePoly, this]

/-! ## The padded result memories -/

theorem padTo256_getElem (l : List Byte) {i : Nat} (h : i < 256) : (padTo256 l)[i] = l.getD i 0 := by
  simp only [padTo256, Vector.getElem_mk, List.getElem_toArray, List.getElem_take]
  rw [List.getD_eq_getElem?_getD, List.getElem_append]
  split
  · next hl => rw [List.getElem?_eq_getElem hl, Option.getD_some]
  · next hl => rw [List.getElem?_eq_none (Nat.le_of_not_lt hl), Option.getD_none, List.getElem_replicate]

/-! ## A command is the end of a completion step over its checks and pseudocode -/

/-- The checks and pseudocode of each command, on the state its completion starts from. -/
def commandBody (i : Instr) (s : State) : Except CmdErr State :=
  match i with
  | .nop => .ok s
  | .gfMul a b => .ok (s.writeResult (zext32 (gfmul a b)))
  | .gfExp a => .ok (s.writeResult (zext32 (expAt a.toNat)))
  | .gfLog a => gfLogBody a s
  | .pSetNum d shift => pSetNumBody d shift s
  | .pMul d a b => pMulBody d a b s
  | .pMod d a b => pModBody d a b s
  | .rsGen d ec => .ok (s.writePoly d (gen ec))
  | .rsEnc src ec => rsEncBody src ec s
  | .rsSyn src ec => rsSynBody src ec s
  | .blkCfg => blkCfgBody s
  | .interleave => interleaveBody s
  | .mtxBuild mask => mtxBuildBody mask s
  | .maskScore => maskScoreBody s
  | .mtxFinal => mtxFinalBody s
  | .run => runBody s

/-- Every meaning is `finish` over its body; this lemma replaces unfolding `exec`. -/
theorem exec_eq_finish (i : Instr) (s : State) : exec i s = finish s (commandBody i s) := by
  cases i <;> rfl

theorem exec_answers (i : Instr) (s : State) : ∃ t, exec i s = .next t := by
  rw [exec_eq_finish]
  exact finish_answers _ _

end Sys2Proof.Machine
end

