-- ==== Sys2Proof/Laws/PerInstr.lean ====
section
/-! SUPPORT. The families of statements made instruction by instruction (LAWS.json). `EncodedOpcode`: the encoded word of a
well-formed command carries its opcode of 30_encoding.md R118 in bits 31:24 (R110). -/

namespace Sys2Proof.Laws.EncodedOpcode

/-- The opcode field of the command's word is the command's opcode. -/
def Statement (i : Instr) : Prop := i.WellFormed → (opcOf (encode i)).toNat = i.opcode

/-- Bits 31:24 of a command word are its opcode, whatever operands fit below. -/
theorem opcode_commandWord {opc operands : Nat} (ho : opc < 2 ^ 8) (hp : operands < 2 ^ 24) :
    (opcOf (commandWord opc operands)).toNat = opc := by
  rw [opcOf, field_toNat, commandWord_toNat ho hp]
  omega

theorem nop : Statement .nop := fun _ => opcode_commandWord (by decide) (by decide)

theorem gfMul (a b : Byte) : Statement (.gfMul a b) := fun _ =>
  opcode_commandWord (by decide) (by have := a.isLt; have := b.isLt; omega)

theorem gfExp (a : Byte) : Statement (.gfExp a) := fun _ =>
  opcode_commandWord (by decide) (by have := a.isLt; omega)

theorem gfLog (a : Byte) : Statement (.gfLog a) := fun _ =>
  opcode_commandWord (by decide) (by have := a.isLt; omega)

theorem pSetNum (d : PReg) (shift : Nat) : Statement (.pSetNum d shift) := fun h =>
  opcode_commandWord (by decide) (by have := d.index.isLt; have : shift < 256 := fitsImm8_iff.mp h
                                     omega)

theorem pMul (d a b : PReg) : Statement (.pMul d a b) := fun _ =>
  opcode_commandWord (by decide) (by have := d.index.isLt; have := a.index.isLt; have := b.index.isLt; omega)

theorem pMod (d a b : PReg) : Statement (.pMod d a b) := fun _ =>
  opcode_commandWord (by decide) (by have := d.index.isLt; have := a.index.isLt; have := b.index.isLt; omega)

theorem rsGen (d : PReg) (ec : Nat) : Statement (.rsGen d ec) := fun h =>
  opcode_commandWord (by decide) (by have := d.index.isLt; have : ec < 256 := fitsImm8_iff.mp h
                                     omega)

theorem rsEnc (src : Src) (ec : Nat) : Statement (.rsEnc src ec) := fun h =>
  opcode_commandWord (by decide) (by have : ec < 256 := fitsImm8_iff.mp h
                                     cases src <;> simp only [Src.bit] <;> omega)

theorem rsSyn (src : Src) (ec : Nat) : Statement (.rsSyn src ec) := fun h =>
  opcode_commandWord (by decide) (by have : ec < 256 := fitsImm8_iff.mp h
                                     cases src <;> simp only [Src.bit] <;> omega)

theorem blkCfg : Statement .blkCfg := fun _ => opcode_commandWord (by decide) (by decide)

theorem interleave : Statement .interleave := fun _ => opcode_commandWord (by decide) (by decide)

theorem mtxBuild (mask : Nat) : Statement (.mtxBuild mask) := fun h =>
  opcode_commandWord (by decide) (by have : mask < 8 := fitsMask_iff.mp h
                                     omega)

theorem maskScore : Statement .maskScore := fun _ => opcode_commandWord (by decide) (by decide)

theorem mtxFinal : Statement .mtxFinal := fun _ => opcode_commandWord (by decide) (by decide)

theorem run : Statement .run := fun _ => opcode_commandWord (by decide) (by decide)

end Sys2Proof.Laws.EncodedOpcode
end

