-- ==== Sys2Proof/Laws/Tables.lean ====
section
/-! SUPPORT. The tables written out from the spec's grids agree with the rules that define them. -/

namespace Sys2Proof.Machine

/-- The class of `z` times an element, as a number: shift, and reduce by 0x11D (41_gf.md R140, R141). -/
def timesAlpha (t : Nat) : Nat := if 2 * t ≥ 0x100 then (2 * t) ^^^ 0x11D else 2 * t

/-- `EXP[0] = 1` and each entry is `alpha` times the one before (41_gf.md R141). -/
theorem expGrid_recurrence :
    expGrid.length = 256 ∧ expGrid.head? = some 1 ∧
      (expGrid.zip expGrid.tail).all (fun p => p.2 == timesAlpha p.1) = true := by decide +kernel

/-- `LOG[EXP[i]] = i` for 0 <= i <= 254 (41_gf.md R142). -/
theorem log_of_exp : ∀ i < 255, logAt (expAt i) = i := by decide +kernel

/-- The relations of 43_blocks.md R200 and R201 in one row of the block table. -/
def rowOk (P : BlockParams) : Bool :=
  P.b1 ≥ 1 && P.d2 == P.d1 + 1 && P.tdata == P.b1 * P.d1 + P.b2 * P.d2 &&
  P.tcw == (P.b1 + P.b2) * (P.d1 + P.ec) + P.b2 && P.b2 == P.tcw % (P.b1 + P.b2) &&
  P.d1 == P.tcw / (P.b1 + P.b2) - P.ec && P.ec ≤ 30 && P.tdata ≤ 2956 && P.tcw ≤ 3706 && P.rem ≤ 7

/-- Forty versions of four levels, each row meeting R200 and R201. -/
theorem blockRows_ok :
    blockRows.length = 40 ∧ blockRows.all (fun r => r.length == 4 && r.all rowOk) = true := by decide +kernel

/-- Long division over GF(2): the remainder of the number `a` by the generator `g` of degree `d` (44_matrix.md R240, R242). -/
def bchRemainder (g d : Nat) : Nat → Nat → Nat
  | 0, a => a
  | k + 1, a => bchRemainder g d k (if a.testBit (d + k) then a ^^^ (g <<< k) else a)

/-- The version table is the BCH construction of 44_matrix.md R240. -/
theorem versionInfo_bch :
    ∀ v < 34, versionInfo (v + 7) = (v + 7) <<< 12 ||| bchRemainder 0x1F25 12 6 ((v + 7) <<< 12) := by
  decide +kernel

/-- The ECC indicator of 44_matrix.md R242. -/
def Ecc.indicator : Ecc → Nat
  | .L => 0b01
  | .M => 0b00
  | .Q => 0b11
  | .H => 0b10

/-- One entry of the format table is the BCH construction of 44_matrix.md R242. -/
def formatOk (e : Ecc) (p : Nat) : Bool :=
  let f := e.indicator <<< 3 ||| p
  formatInfo e p == (f <<< 10 ||| bchRemainder 0x537 10 5 (f <<< 10)) ^^^ 0x5412

/-- The format table is the BCH construction of 44_matrix.md R242. -/
theorem formatInfo_bch : ∀ p < 8, formatOk .L p ∧ formatOk .M p ∧ formatOk .Q p ∧ formatOk .H p := by decide +kernel

end Sys2Proof.Machine
end

