-- ==== Sys2Proof/Laws/Turn.lean ====
section
/-! SUPPORT. What one step can do, said once; and what each move answers. -/

namespace Sys2Proof.Machine

theorem step_nil {s : State} (h : s.agenda = []) : step s = engineTurn s := by
  simp [step, h]

theorem step_cons {s : State} {m : Move} {rest : List Move} (h : s.agenda = m :: rest) :
    step s = takeMove m { s with agenda := rest } := by
  simp [step, h]

theorem engineTurn_idle {s : State} (h : s.status.busy = false) : engineTurn s = .next s := by
  simp [engineTurn, h]

theorem engineTurn_command {s : State} {i : Instr} (hb : s.status.busy = true) (hd : decode s.cmd = .ok i) :
    engineTurn s = exec i s := by
  simp [engineTurn, hb, completeCommand, hd]

theorem engineTurn_noCommand {s : State} {e : DecodeError} (hb : s.status.busy = true) (hd : decode s.cmd = .error e) :
    engineTurn s = .next (s.raiseErr (decodeErr e s.cmd)) := by
  simp [engineTurn, hb, completeCommand, hd]

/-- Every step is one of these: a bus read, a bus write, a power-on reset, an idle engine, the completion of a command, or the
error completion of a word that is none. -/
theorem step_cases {s t : State} (h : step s = .next t) :
    ∃ u, (u = s ∨ ∃ rest, u = { s with agenda := rest }) ∧
      ((∃ a, t = u.busRead a) ∨ (∃ a v, t = u.busWrite a v) ∨ t = u.powerOnReset ∨
       (u.status.busy = false ∧ t = u) ∨
       (∃ i, u.status.busy = true ∧ decode u.cmd = .ok i ∧ exec i u = .next t) ∨
       (∃ e, u.status.busy = true ∧ decode u.cmd = .error e ∧ t = u.raiseErr (decodeErr e u.cmd))) := by
  have turn : ∀ u : State, engineTurn u = .next t →
      (u.status.busy = false ∧ t = u) ∨
      (∃ i, u.status.busy = true ∧ decode u.cmd = .ok i ∧ exec i u = .next t) ∨
      (∃ e, u.status.busy = true ∧ decode u.cmd = .error e ∧ t = u.raiseErr (decodeErr e u.cmd)) := by
    intro u hu
    unfold engineTurn completeCommand at hu
    split at hu
    · next hb =>
      split at hu
      · next i hd => exact .inr (.inl ⟨i, hb, hd, hu⟩)
      · next e hd => exact .inr (.inr ⟨e, hb, hd, by simpa using hu.symm⟩)
    · next hb => exact .inl ⟨by simpa using hb, by simpa using hu.symm⟩
  unfold step at h
  split at h
  · exact ⟨s, .inl rfl, .inr (.inr (.inr (turn s h)))⟩
  · next m rest hm =>
    refine ⟨{ s with agenda := rest }, .inr ⟨rest, rfl⟩, ?_⟩
    cases m with
    | busRead a => exact .inl ⟨a, by simpa [takeMove] using h.symm⟩
    | busWrite a v => exact .inr (.inl ⟨a, v, by simpa [takeMove] using h.symm⟩)
    | engine => exact .inr (.inr (.inr (turn _ h)))
    | powerOn => exact .inr (.inr (.inl (by simpa [takeMove] using h.symm)))

/-- A bus read only gives the host a word and may set `ACC_ERR`. -/
theorem busRead_cases (s : State) (a : BusAddr) :
    (∃ v, s.readLocation (locate a) = some v ∧ s.busRead a = { s with readData := v }) ∨
    (s.readLocation (locate a) = none ∧ s.busRead a = { s.accessError with readData := 0 }) := by
  unfold State.busRead
  cases h : s.readLocation (locate a) with
  | none => exact .inr ⟨rfl, rfl⟩
  | some v => exact .inl ⟨v, rfl, rfl⟩

/-- The offset an address was made from. -/
theorem busOffset_hostAddress (a : BusAddr) : busOffset (hostAddress a) = a := by
  rw [busOffset, hostAddress, BitVec.add_comm, BitVec.add_sub_cancel]
  apply BitVec.eq_of_toNat_eq
  simp only [BitVec.toNat_setWidth]
  omega

end Sys2Proof.Machine
end

