-- ==== Sys2Proof/Tests/Slice0.lean ====
section
/-! SUPPORT. The author's tests: ill-formed terms are refused; words written out from 30_encoding.md decode; one step of each
command, the expected result taken from the spec's examples and vectors (95_test_vectors.md) or worked out by hand from its
formulas; and for each statement with hypotheses a named witness that meets them. -/

set_option Elab.async false

namespace Sys2Proof.Tests

open Sys2Proof Sys2Proof.Machine Sys2Proof.Spec

/-! ## Well-formedness (30_encoding.md R113 to R115) -/

theorem test_wf_psetnum_shift_256 : (Instr.pSetNum .P0 256).wellFormed = false := by decide
theorem test_wf_rs_gen_256 : (Instr.rsGen .P0 256).wellFormed = false := by decide
theorem test_wf_rs_enc_256 : (Instr.rsEnc .data 256).wellFormed = false := by decide
theorem test_wf_rs_syn_256 : (Instr.rsSyn .cw 256).wellFormed = false := by decide
theorem test_wf_mtx_build_8 : (Instr.mtxBuild 8).wellFormed = false := by decide
theorem test_wf_bounds : (Instr.pSetNum .P3 255).wellFormed = true ∧ (Instr.mtxBuild 7).wellFormed = true := by decide

/-! ## Decoding: the bits of R110 to R115 written out, opcode | 23:16 | 15:8 | 7:0 -/

theorem test_decode_nop : decode 0b00000000_00000000_00000000_00000000#32 = .ok .nop := by decide
theorem test_decode_gf_mul : decode 0b00010000_01010111_10000011_00000000#32 = .ok (.gfMul 0x57 0x83) := by decide
theorem test_decode_gf_exp : decode 0b00010001_00001000_00000000_00000000#32 = .ok (.gfExp 8) := by decide
theorem test_decode_gf_log : decode 0b00010010_01010111_00000000_00000000#32 = .ok (.gfLog 0x57) := by decide
theorem test_decode_psetnum : decode 0b00100000_00_01_00_00_00_00_0000_00000011#32 = .ok (.pSetNum .P1 3) := by decide
theorem test_decode_pmul : decode 0b00100001_00_10_00_00_00_01_0000_00000000#32 = .ok (.pMul .P2 .P0 .P1) := by decide
theorem test_decode_pmod : decode 0b00100010_00_11_00_10_00_01_0000_00000000#32 = .ok (.pMod .P3 .P2 .P1) := by decide
theorem test_decode_rs_gen : decode 0b00110000_00_11_00_00_00_00_0000_00000111#32 = .ok (.rsGen .P3 7) := by decide
theorem test_decode_rs_enc : decode 0b00110001_0000000_0_00000000_00000010#32 = .ok (.rsEnc .data 2) := by decide
theorem test_decode_rs_syn : decode 0b00110010_0000000_1_00000000_00001010#32 = .ok (.rsSyn .cw 10) := by decide
theorem test_decode_blk_cfg : decode 0x40000000#32 = .ok .blkCfg := by decide
theorem test_decode_interleave : decode 0x41000000#32 = .ok .interleave := by decide
theorem test_decode_mtx_build : decode 0b01010000_000000000000000000000_100#32 = .ok (.mtxBuild 4) := by decide
theorem test_decode_mask_score : decode 0x51000000#32 = .ok .maskScore := by decide
theorem test_decode_mtx_final : decode 0x52000000#32 = .ok .mtxFinal := by decide
theorem test_decode_run : decode 0x60000000#32 = .ok .run := by decide

/-- 30_encoding.md R119: both ends of three of the unassigned ranges. -/
theorem test_decode_unassigned :
    ([0x01000000#32, 0x0F000000#32, 0x13000000#32, 0x53000000#32, 0x61000000#32, 0xFF000000#32].map decode) =
      List.replicate 6 (.error .illegalOpc) := by decide

/-- 30_encoding.md R116: one bit of each kind that must be 0. -/
theorem test_decode_reserved :
    ([0x00000001#32, 0x10578301#32, 0x11000100#32, 0x20400003#32, 0x20110003#32, 0x21201001#32, 0x30001007#32,
      0x31020002#32, 0x50000008#32, 0x60800000#32].map decode) = List.replicate 10 (.error .reserved) := by decide

/-- 30_encoding.md R121: words of the syntax table. -/
theorem test_encode :
    encode (.gfMul 0x57 0x83) = 0x10578300#32 ∧ encode (.pMul .P2 .P0 .P1) = 0x21201000#32 ∧
    encode (.rsSyn .cw 10) = 0x3201000A#32 ∧ encode (.mtxBuild 4) = 0x50000004#32 := by decide

theorem test_table_word : decodeTableWord 32 0x10578300 = some (.gfMul 0x57 0x83) ∧ decodeTableWord 32 0x01000000 = none := by
  decide

/-! ## One step of each command -/

/-- The state one step after the word `w` is due in `s`. -/
def ran (s : State) (w : Nat) : State :=
  match step (s.withFetchWord 32 w) with
  | .next t => t
  | .fault f => nomatch f
  | .refused _ => s

/-- `DATA[0..]` holding the bytes, `ARG0 = 0` and `ARG1` their number. -/
def withData (bytes : List Byte) : State :=
  { State.reset with data := bytes.mapIdx fun i b => (i, b), arg1 := BitVec.ofNat 13 bytes.length }

/-- Polynomial registers 0 and 1. -/
def withPolys (A B : Poly) : State := { State.reset with pr := #v[A, B, [], []] }

/-- The HELLO WORLD configuration of 95_test_vectors.md Program 3, with a fixed mask. -/
def hello : State :=
  { withData [32, 91, 11, 120, 209, 114, 220, 77, 67, 64, 236, 17, 236, 17, 236, 17] with
    cfgVersion := 1, cfgEcc := 1, dlen := 16, cfgMask := { auto := false, pat := 3 } }

/-- The 26 HELLO WORLD codewords in `CW` (95_test_vectors.md Program 3). -/
def helloCw : State :=
  { hello with
    cw := ([32, 91, 11, 120, 209, 114, 220, 77, 67, 64, 236, 17, 236, 17, 236, 17, 196, 35, 39, 119, 235, 215, 231,
      226, 93, 23] : List Byte).mapIdx fun i b => (i, b) }

/-- 46_sequencer.md R310: `NOP` completes; 0x00000001 does not. -/
theorem test_nop : (ran State.reset 0x00000000).status.done = true ∧ (ran State.reset 0x00000001).errInfo = 1 ∧
    (ran State.reset 0x00000001).status.errCode = 2 := by decide +kernel

theorem test_illegal : (ran State.reset 0x01000000).status.errCode = 1 ∧ (ran State.reset 0x01000000).status.err = true := by
  decide +kernel

/-- 41_gf.md R151 example, and a reduction. -/
theorem test_gf_mul : (ran State.reset 0x10578300).result = 0x31 ∧ (ran State.reset 0x10028000).result = 0x1D := by
  decide +kernel

/-- 41_gf.md R152 example. -/
theorem test_gf_exp : (ran State.reset 0x11080000).result = 0x1D ∧ (ran State.reset 0x11FF0000).result = 1 := by
  decide +kernel

/-- 41_gf.md R153 example. -/
theorem test_gf_log : (ran State.reset 0x12570000).result = 189 ∧ (ran State.reset 0x12000000).status.errCode = 4 := by
  decide +kernel

/-- 41_gf.md R154 example. -/
theorem test_psetnum : (ran (withData [0, 0, 7, 0]) 0x20100003).readPoly .P1 = [7, 0, 0, 0, 0] := by decide +kernel

/-- 95_test_vectors.md V2: `E_RANGE` with 4100. -/
theorem test_psetnum_range : (ran { State.reset with arg0 := 4000, arg1 := 100 } 0x20000000).errInfo = 4100 := by
  decide +kernel

/-- 41_gf.md R155 example, and a destination that is a source. -/
theorem test_pmul : (ran (withPolys [1, 2, 3] [1, 5]) 0x21201000).readPoly .P2 = [1, 7, 9, 15] ∧
    (ran (withPolys [1, 2, 3] [1, 5]) 0x21001000).readPoly .P0 = [1, 7, 9, 15] := by decide +kernel

/-- 41_gf.md R156 example, and the divisor that is not monic of 95_test_vectors.md V2. -/
theorem test_pmod : (ran (withPolys [1, 0, 0, 0] [1, 3, 2]) 0x22201000).readPoly .P2 = [7, 6] ∧
    (ran (withPolys [7, 0, 0, 1] [3, 1]) 0x22201000).readPoly .P2 = [0xC4] := by decide +kernel

/-- 95_test_vectors.md V2: division by zero. -/
theorem test_pmod_zero : (ran (withPolys [1, 2] []) 0x22201000).status.errCode = 6 := by decide +kernel

/-- 42_rs.md R184 example. -/
theorem test_rs_gen : (ran State.reset 0x30000007).readPoly .P0 = [1, 0x7F, 0x7A, 0x9A, 0xA4, 0x0B, 0x44, 0x75] := by
  decide +kernel

/-- 42_rs.md R185 examples. -/
theorem test_rs_enc : (ran (withData [0x12, 0x34]) 0x31000002).eco.toList.take 3 = [0x22, 0x04, 0] ∧
    (ran (withData [0xD3, 0x01]) 0x31000002).eco.toList.take 3 = [0, 0xD2, 0] := by decide +kernel

/-- 42_rs.md R186 examples. -/
theorem test_rs_syn : (ran (withData [0x12, 0x34, 0x22, 0x04]) 0x32000002).result = 1 ∧
    (ran (withData [0x12, 0x34, 0, 0]) 0x32000002).syn.toList.take 3 = [0x26, 0x40, 0] := by decide +kernel

/-- 43_blocks.md R206 example: 5-Q. -/
theorem test_blk_cfg : (ran { State.reset with cfgVersion := 5, cfgEcc := 2 } 0x40000000).blk =
    { b1 := 2, d1 := 15, b2 := 2, d2 := 16, ec := 18, tdata := 62, tcw := 134, rem := 7 } := by decide +kernel

/-- 60_exceptions.md R326: a reserved bit comes before the illegal version. -/
theorem test_blk_cfg_errors : (ran State.reset 0x40000000).status.errCode = 3 ∧
    (ran State.reset 0x40000001).status.errCode = 2 := by decide +kernel

/-- 95_test_vectors.md Program 3: the ends of the data and of the EC codewords. -/
theorem test_interleave : (ran hello 0x41000000).cw.map (·.2) =
    [32, 91, 11, 120, 209, 114, 220, 77, 67, 64, 236, 17, 236, 17, 236, 17, 196, 35, 39, 119, 235, 215, 231, 226, 93,
      23] := by decide +kernel

/-- 95_test_vectors.md V3: 5-Q with `DLEN = 61`. -/
theorem test_interleave_count : (ran { State.reset with cfgVersion := 5, cfgEcc := 2, dlen := 61 } 0x41000000).errInfo =
    0x003E003D := by decide +kernel

/-- 44_matrix.md R251 example: cell (20, 20) under mask 4 is dark data. -/
theorem test_mtx_build : (ran helloCw 0x50000004).mtx.cells.at 20 20 = { type := .data, dark := true } := by decide +kernel

/-- 44_matrix.md R251 example: the first eight visited cells; R245: the second pair downward, and the pair after column 6. -/
theorem test_zigzag :
    (zigzag 21).take 8 = [(20, 20), (19, 20), (20, 19), (19, 19), (20, 18), (19, 18), (20, 17), (19, 17)] ∧
    ((zigzag 21).drop 42).take 3 = [(18, 0), (17, 0), (18, 1)] ∧
    ((zigzag 21).drop (42 * 7)).take 3 = [(5, 0), (4, 0), (5, 1)] := by decide +kernel

/-- 45_mask.md R281 to R284, by hand: 3 x 3 dark cells have one cell with 8 equal neighbours, 4 blocks, 9 dark. -/
theorem test_mask_score :
    (ran { State.reset with
            mtx := { valid := true, n := 3, version := 1, ecc := 0, mask := 0
                     cells := List.replicate 3 (List.replicate 3 { type := .data, dark := true }) } } 0x51000000).pen =
      { r1 := 6, r2 := 12, r3 := 0, dark := 9, r4num := 900 } := by decide +kernel

theorem test_mask_score_none : (ran State.reset 0x51000000).status.errCode = 9 := by decide +kernel

/-- 45_mask.md R289: a fixed mask 3, and the version-1 size. -/
theorem test_mtx_final : (ran helloCw 0x52000000).selMask = 3 ∧ (ran helloCw 0x52000000).mtx.n = 21 ∧
    (ran helloCw 0x52000000).pen.r1 = 0 := by decide +kernel

/-- 95_test_vectors.md V3: version 41. -/
theorem test_mtx_final_version : (ran { State.reset with cfgVersion := 41 } 0x52000000).errInfo = 41 := by decide +kernel

/-- 95_test_vectors.md V4: the scaled totals of the HELLO WORLD candidates select mask 4 (45_mask.md R286). -/
theorem test_select : select [516711, 523526, 509573, 541766, 483349, 580856, 532505, 484477] = 4 ∧
    select [7, 5, 9, 5, 8, 8, 8, 8] = 1 := by decide

/-- 46_sequencer.md R311: the EC codewords of the example, and the matrix descriptors. -/
theorem test_run : (ran hello 0x60000000).readCw 16 = 196 ∧ (ran hello 0x60000000).mtx.mask = 3 ∧
    (ran hello 0x60000000).status.done = true := by decide +kernel

/-- 95_test_vectors.md V3: 1-M with `DLEN = 15`. -/
theorem test_run_count : (ran { hello with dlen := 15 } 0x60000000).errInfo = 0x0010000F := by decide +kernel

/-! ## Values of the spec's tables and formulas (95_test_vectors.md V4) -/

theorem test_format_info : [formatInfo .L 0, formatInfo .M 0, formatInfo .Q 0, formatInfo .H 0, formatInfo .M 4, formatInfo .H 7] =
    [0x77C4, 0x5412, 0x355F, 0x1689, 0x45F9, 0x083B] := by decide +kernel

theorem test_version_info : [versionInfo 7, versionInfo 8, versionInfo 20, versionInfo 40] =
    [0x07C94, 0x085BC, 0x149A6, 0x28C69] := by decide +kernel

theorem test_maskcond : ((List.range 8).map fun p => [maskcond p 0 0, maskcond p 3 5, maskcond p 1 2, maskcond p 5 3]) =
    [[true, true, false, true], [true, false, true, false], [true, true, false, false], [true, false, true, false],
     [true, false, false, true], [true, false, false, false], [true, false, true, false], [true, true, false, true]] := by
  decide +kernel

/-! ## The bus (20_memory.md) -/

/-- R83, R85, R87: three access errors. -/
theorem test_access_errors : (State.reset.busRead 0x001).status.accErr = true ∧
    (State.reset.busWrite 0x034 5).status.accErr = true ∧ (State.reset.busWrite 0x000 5).status.accErr = true := by
  decide +kernel

/-- 10_state.md R64, 20_memory.md R88: `ID`, and three entries of the `LOG` window. -/
theorem test_reads : (State.reset.busRead 0x000).readData = 0x51524331 ∧ (State.reset.busRead 0x800).readData = 0xFFFFFFFF ∧
    (State.reset.busRead 0x80C).readData = 25 ∧ (State.reset.busRead 0xBFC).readData = 175 := by decide +kernel

/-- 10_state.md R36, R37, R46: neighbouring offsets, each with its own register. -/
theorem test_register_map :
    let s := { State.reset with
                errInfo := 9, result := 4
                blk := { b1 := 1, d1 := 2, b2 := 3, d2 := 4, ec := 5, tdata := 6, tcw := 7, rem := 8 } }
    ([0x010, 0x014, 0x060, 0x064, 0x068, 0x06C, 0x070, 0x074, 0x078, 0x07C].map fun a => (s.busRead a).readData) =
      [9, 4, 1, 2, 3, 4, 5, 6, 7, 8] := by decide +kernel

/-- 60_exceptions.md R321, 20_memory.md R93: a command in flight locks the core. -/
theorem test_busy : ((State.reset.busWrite 0x00C 0x60000000).busWrite 0x00C 0).status.cmdIgn = true ∧
    ((State.reset.busWrite 0x00C 0x60000000).busWrite 0x4000 7).data = [] := by decide +kernel

/-- 20_memory.md R92, source property 8: the border of a 21 x 21 matrix is 4 and the side 29. -/
theorem test_quiet_zone :
    let s := { State.reset with
                cfgQz := { en := true, size := 4 }
                mtx := { valid := true, n := 21, version := 1, ecc := 0, mask := 0, cells := [] } }
    (s.busRead 0x090).readData = 4 ∧ (s.busRead 0x094).readData = 29 ∧ (s.busRead 0x100000).readData = 0x900 := by
  decide +kernel

/-! ## Witnesses: each theorem shows states and operands that meet the hypotheses of the statement it is named after -/

theorem witness_DecodeOfEncodeIsTheCommand : (Instr.rsSyn .cw 255).WellFormed ∧ (Instr.mtxBuild 7).WellFormed := by decide

theorem witness_EncodeOfDecodeIsTheWord : decode 0x50000007#32 = .ok (.mtxBuild 7) := by decide

/-- A state with the command word in flight. -/
def inFlight (w : Word) : State := { State.reset with cmd := w, status := { State.reset.status with busy := true } }

theorem witness_UnassignedOpcodeCompletesAsIllegal :
    (inFlight 0x01000000#32).status.busy = true ∧ Unassigned (opcodeBits (inFlight 0x01000000#32).cmd) ∧
    Unassigned (opcodeBits (inFlight 0xFFFFFFFF#32).cmd) ∧ ¬ Unassigned (opcodeBits (inFlight 0#32).cmd) := by
  unfold Unassigned; decide +kernel

theorem witness_ReservedBitCompletesAsReserved :
    (inFlight 1#32).status.busy = true ∧ ¬ Unassigned (opcodeBits (inFlight 1#32).cmd) ∧
    (inFlight 1#32).cmd &&& mustBeZero (opcodeBits (inFlight 1#32).cmd) ≠ 0 ∧
    ¬ Unassigned (opcodeBits (inFlight 0x50000007#32).cmd) ∧
    (inFlight 0x50000007#32).cmd &&& mustBeZero (opcodeBits (inFlight 0x50000007#32).cmd) = 0 := by
  unfold Unassigned; decide +kernel

theorem witness_EngineTurnRunsTheDecodedCommand :
    (inFlight 0#32).status.busy = true ∧ decode (inFlight 0#32).cmd = .ok .nop ∧ (inFlight 0#32).agenda = [] ∧
    ({ inFlight 0#32 with agenda := [.engine] } : State).agenda = .engine :: [] := by decide

theorem witness_OtherMovesAreOneEvent :
    ({ State.reset with agenda := [.busRead 0] } : State).agenda = .busRead 0 :: [] ∧
    ({ State.reset with agenda := [.busWrite 0 0] } : State).agenda = .busWrite 0 0 :: [] ∧
    ({ State.reset with agenda := [.powerOn] } : State).agenda = .powerOn :: [] ∧
    ({ State.reset with agenda := [.engine] } : State).agenda = .engine :: [] ∧
    State.reset.status.busy = false ∧ State.reset.agenda = [] := by decide

theorem witness_AcceptedCommandCompletes : (inFlight 0#32).agenda = [] ∧ (inFlight 0#32).status.busy = true := by decide

theorem witness_GfLogWritesTheExponent : (0x57#8 : Byte) ≠ 0 ∧ (0#8 : Byte) = 0 := by decide

/-- In range at the last entry, one coefficient too many, and out of range by one. -/
theorem witness_PSetNumLoadsTheShiftedEntries :
    (InRange { State.reset with arg0 := 4095, arg1 := 1 }) ∧
    (let S := (streamOf (withData [0, 7]) .data).dropWhile (· == 0)
     InRange (withData [0, 7]) ∧ (S ++ List.replicate 255 (0#8 : Byte)).length ≤ 256 ∧ S ≠ []) ∧
    (let S := (streamOf (withData [7, 7]) .data).dropWhile (· == 0)
     InRange (withData [7, 7]) ∧ S ≠ [] ∧ 256 < (S ++ List.replicate 255 (0#8 : Byte)).length) ∧
    ¬ InRange { State.reset with arg0 := 4095, arg1 := 2 } := by decide +kernel

theorem witness_PMulWritesTheConvolution :
    (let s := withPolys (List.replicate 255 1) [1, 2]
     s.readPoly .P0 ≠ [] ∧ s.readPoly .P1 ≠ [] ∧ (s.readPoly .P0).length + (s.readPoly .P1).length - 1 ≤ 256) ∧
    (withPolys [] [1]).readPoly .P0 = [] ∧
    (let s := withPolys (List.replicate 256 1) [1, 2]
     s.readPoly .P0 ≠ [] ∧ s.readPoly .P1 ≠ [] ∧ 256 < (s.readPoly .P0).length + (s.readPoly .P1).length - 1) := by
  decide +kernel

theorem witness_PModWritesTheRemainder :
    (let s := withPolys [1, 0, 0, 0] [1, 3, 2]
     Poly.Normalised (s.readPoly .P0) ∧ Poly.Normalised (s.readPoly .P1) ∧ s.readPoly .P1 ≠ []) ∧
    (withPolys [1] []).readPoly .P1 = [] := by decide +kernel

theorem witness_RsGenWritesTheGenerator : 0 < 256 ∧ 255 < 256 := by decide

theorem witness_RsEncWritesTheEcCodewords : 255 < 256 ∧ InRange (withData [0x12, 0x34]) := by decide +kernel

theorem witness_RsSynWritesTheSyndromes : 255 < 256 ∧ InRange { State.reset with arg0 := 4095, arg1 := 1 } := by decide

theorem witness_RsStreamsFailOutOfRange : ¬ InRange { State.reset with arg0 := 4095, arg1 := 2 } := by decide

theorem witness_EncodedBlocksHaveZeroSyndromes :
    ∃ t, exec (.rsEnc .data 2) (withData [0x12, 0x34]) = .next t ∧ InRange (withData [0x12, 0x34, 0x22, 0x04]) ∧
      streamOf (withData [0x12, 0x34, 0x22, 0x04]) .data =
        streamOf (withData [0x12, 0x34]) .data ++ (List.range 2).map (fun i => t.eco.getD i 0) :=
  ⟨_, rfl, by decide +kernel, by decide +kernel⟩

/-- `BlkCfgLoadsConsistentParameters`, `MtxBuildReplacesTheMatrix`: both ends of the legal versions. -/
theorem witness_BlkCfgLoadsConsistentParameters_MtxBuildReplacesTheMatrix :
    LegalVersion { State.reset with cfgVersion := 1 } ∧ LegalVersion { State.reset with cfgVersion := 40 } := by decide

theorem witness_IllegalVersionFails :
    ¬ LegalVersion State.reset ∧ ¬ LegalVersion { State.reset with cfgVersion := 41 } := by decide

theorem witness_WrongDataCountFails :
    LegalVersion { hello with dlen := 15 } ∧ ({ hello with dlen := 15 } : State).dlen.toNat ≠ (configTable hello).tdata := by
  decide +kernel

theorem witness_InterleaveWritesEveryPlace :
    LegalVersion hello ∧ hello.dlen.toNat = (configTable hello).tdata ∧
    (let P := configTable { State.reset with cfgVersion := 40, cfgEcc := 3 }
     P.b1 ≤ 80 ∧ 80 < P.b1 + P.b2 ∧ 0 < P.d1 ∧ 29 < P.ec) := by decide +kernel

/-- `BuiltMatrixIsFinished`, and the operands of `FindersSeparatorsAndDarkModuleStand` for the finder at the top right. -/
theorem witness_BuiltMatrixIsFinished_FindersSeparatorsAndDarkModuleStand :
    1 ≤ 1 ∧ 40 ≤ 40 ∧ (4 * 40 + 17 - 7 = 170 ∧ 0 = 0) ∧ 6 < 7 ∧ 7 ≤ 7 := by decide

theorem witness_VersionInformationReadsBack : 7 ≤ 7 ∧ 7 ≤ 40 ∧ 40 ≤ 40 ∧ 0 < 18 ∧ 17 < 18 := by decide

theorem witness_FormatInformationReadsBack : 1 ≤ 1 ∧ 40 ≤ 40 ∧ 0 < 15 ∧ 14 < 15 := by decide

theorem witness_AlignmentPatternsStandWhole :
    18 ∈ alignmentAt 2 ∧ ¬ ((18 = 6 ∧ 18 = 6) ∨ (18 = 4 * 2 + 10 ∧ 18 = 6) ∨ (18 = 6 ∧ 18 = 4 * 2 + 10)) ∧
    6 ∈ alignmentAt 40 ∧ 30 ∈ alignmentAt 40 ∧ ¬ ((6 = 6 ∧ 30 = 6) ∨ (6 = 170 ∧ 30 = 6) ∨ (6 = 6 ∧ 30 = 170)) := by
  decide +kernel

theorem witness_TimingPatternsAlternate :
    (∀ c ∈ alignmentAt 1, c = 6 ∨ c = 14 ∨ c + 2 < 12 ∨ 12 + 2 < c) ∧
    (∀ c ∈ alignmentAt 7, c = 6 ∨ c = 38 ∨ c + 2 < 8 ∨ 8 + 2 < c) ∧
    (∀ c ∈ alignmentAt 7, c = 6 ∨ c = 38 ∨ c + 2 < 36 ∨ 36 + 2 < c) := by decide +kernel

/-- A free cell, and both ends of the column pairs, the rows and the columns of a pair. -/
theorem witness_DataCellsHoldTheMaskedBits :
    (2 * 0 + 1 < 21 ∧ 2 * 9 + 1 < 21 ∧ 0 < 21 ∧ 20 < 21 ∧ 0 < 2 ∧ 1 < 2) ∧
    ((zigzag 21).filter fun c => decide (((functionGrid 1 .M 4).at c.1 c.2).type = .empty))[0]? = some (20, 20) := by
  decide +kernel

theorem witness_MaskScoreWritesThePenalties :
    ({ State.reset with mtx := { State.reset.mtx with valid := true } } : State).mtx.valid = true ∧
    State.reset.mtx.valid = false := by decide

/-- `MtxFinalWithFixedMask` and `MtxFinalSelectsTheFirstMinimum`. -/
theorem witness_MtxFinalWithFixedMask_MtxFinalSelectsTheFirstMinimum :
    LegalVersion hello ∧ hello.cfgMask.auto = false ∧
    LegalVersion { State.reset with cfgVersion := 40 } ∧
    ({ State.reset with cfgVersion := 40 } : State).cfgMask.auto = true := by decide

theorem witness_RunIsInterleaveThenFinal : LegalVersion hello ∧ hello.dlen.toNat = (configTable hello).tdata := by
  decide +kernel

/-- A command that completes and one that fails. -/
theorem witness_CommandsCompleteOrFailPrecisely :
    (∃ t, exec .nop State.reset = .next t ∧ t.status.done = true) ∧
    ∃ t, exec .run State.reset = .next t ∧ t.status.err = true :=
  ⟨⟨_, rfl, rfl⟩, ⟨_, rfl, rfl⟩⟩

theorem witness_CommandsWriteOnlyTheirTargets :
    ∃ t, exec (.gfMul 1 2) State.reset = .next t ∧ t.result ≠ State.reset.result :=
  ⟨_, rfl, by decide +kernel⟩

theorem witness_CmdWriteIsAcceptedOrIgnored :
    State.reset.status.busy = false ∧ State.reset.status.err = false ∧ (inFlight 0#32).status.busy = true := by decide

theorem witness_ErrorBlocksUntilAcknowledged :
    (ran State.reset 0x01000000).status.err = true ∧ (ran State.reset 0x01000000).status.busy = false ∧
    (4#32).getLsbD 2 = true ∧ (1#32).getLsbD 0 = true := by decide +kernel

/-- Both ends of each unmapped range, an unnamed register offset, and a misaligned address. -/
theorem witness_MisalignedAndUnmappedSetAccErr :
    0x1FFFFF % 4 ≠ 0 ∧ Unmapped 0x034 ∧ Unmapped 0x3FC ∧ Unmapped 0xC00 ∧ Unmapped 0xFFC ∧ Unmapped 0x2800 ∧
    Unmapped 0x3FFC ∧ Unmapped 0xC000 ∧ Unmapped 0x3FFFC ∧ Unmapped 0x80000 ∧ Unmapped 0xFFFFC := by
  refine ⟨by decide, ?_, ?_, ?_, ?_, ?_, ?_, ?_, ?_, ?_, ?_⟩ <;> (unfold Unmapped NamedOffset; decide)

theorem witness_ReadOnlyWritesSetAccErr :
    ReadOnly 0x000 ∧ ReadOnly 0x010 ∧ ReadOnly 0x040 ∧ ReadOnly 0x0FC ∧ ReadOnly 0x400 ∧ ReadOnly 0xBFC ∧
    ReadOnly 0x1000 ∧ ReadOnly 0x27FC ∧ ReadOnly 0x40000 ∧ ReadOnly 0x7FFFC ∧ ReadOnly 0x100000 ∧ ReadOnly 0x1FFFFC := by
  refine ⟨?_, ?_, ?_, ?_, ?_, ?_, ?_, ?_, ?_, ?_, ?_, ?_⟩ <;> (unfold ReadOnly NamedOffset; decide)

theorem witness_BusyLocksTheCore :
    (inFlight 0#32).status.busy = true ∧ 0x400 ≤ 0x1FFFFC ∧ NamedOffset 0x030 ∧ NamedOffset 0x0FC := by
  unfold NamedOffset; decide +kernel

/-- The `CTRL` clause with a command in flight, and the others with none. -/
theorem witness_ReadWriteRegistersKeepTheirFields :
    (inFlight 0#32).status.busy = true ∧ (0x6#32).getLsbD 0 = false ∧ State.reset.status.busy = false := by decide

theorem witness_MemoryWindowsStoreOneEntry : State.reset.status.busy = false ∧ 4095 < 4096 ∧ 4094 ≠ 4095 := by decide

/-- First and last listed register, an entry of `mtxWords`, and the window entries of `ResultWindowsReadTheirEntries` and `TableWindowsHoldPowersAndLogarithms`. -/
theorem witness_ResultWindows_TableWindows :
    (0x000, 0x51524331#32) ∈ registerWords State.reset ∧ (0x0B4, 0#32) ∈ registerWords State.reset ∧
    (0x080, 0#32) ∈ registerWords State.reset ∧ State.reset.status.busy = false ∧ 255 < 256 ∧ 254 < 255 := by
  decide +kernel

/-- `RawViewReadsTheMatrix` and `OutputViewAddsTheQuietZone`. -/
theorem witness_RawView_OutputView : State.reset.status.busy = false ∧ 255 < 256 ∧ 511 < 512 := by decide

theorem witness_RegistersReadTheirResetValues :
    NamedOffset 0x000 ∧ NamedOffset 0x0FC ∧ (1#32).getLsbD 0 = true := by unfold NamedOffset; decide +kernel

theorem witness_SoftResetKeepsOnlyTheMemories :
    (1#32).getLsbD 0 = true ∧ State.reset.status.busy = false ∧ decode (inFlight 0#32).cmd ≠ .ok .interleave ∧
    decode (inFlight 0#32).cmd ≠ .ok .run := by decide

theorem witness_AbandonedWriterMixesOldAndNew :
    let s := { hello with cmd := 0x41000000#32, status := { hello.status with busy := true } }
    (1#32).getLsbD 0 = true ∧ s.status.busy = true ∧ decode s.cmd = .ok .interleave ∧ LegalVersion s ∧
      s.dlen.toNat = (configTable s).tdata ∧ ∃ u, exec .interleave s = .next u :=
  ⟨by decide, by decide, by decide, by decide, by decide +kernel, exec_answers _ _⟩

/-- The four `StepKeeps…` statements. -/
theorem witness_StepKeeps :
    ∃ t, State.reset.MemoryOk ∧ State.reset.PolynomialsOk ∧ State.reset.StatusOk ∧ State.reset.mtx.Ok ∧
      step State.reset = .next t :=
  ⟨State.reset, by decide +kernel, by decide +kernel, by decide +kernel, by decide +kernel, rfl⟩

end Sys2Proof.Tests
end

section
/-! The registers as the host sees them over the bus (10_state.md R31 to R51): which address names which register, the word
`STATUS` reads as, the write-1-to-clear write, and what a register reads after a reset. -/

namespace Sys2Proof.Machine

open Sys2Proof.Spec

/-! ## The bus at the address of a register -/

theorem busRead_of_locate_reg {a : BusAddr} {r : Reg} (s : State) (h : locate a = .reg r) :
    s.busRead a = { s with readData := s.readReg r } := by
  simp only [State.busRead, h, State.readLocation]

theorem busWrite_of_locate_reg {a : BusAddr} {r : Reg} (s : State) (v : Word) (h : locate a = .reg r) :
    s.busWrite a v = s.writeReg v r := by
  simp only [State.busWrite, h]

/-- The offsets of `NamedOffset` are those of the register map. -/
theorem mem_regMap_of_namedOffset {n : Nat} (h : NamedOffset n) : ∃ r, (n, r) ∈ regMap := by
  have listed : ∀ k < 0x40, (4 * k ≤ 0x030 ∨ (0x040 ≤ 4 * k ∧ 4 * k ≤ 0x04C) ∨ (0x060 ≤ 4 * k ∧ 4 * k ≤ 0x094) ∨
      (0x0A0 ≤ 4 * k ∧ 4 * k ≤ 0x0B4) ∨ (0x0C0 ≤ 4 * k ∧ 4 * k ≤ 0x0FC)) → 4 * k ∈ regMap.map Prod.fst := by decide
  obtain ⟨aligned, range⟩ := h
  obtain ⟨k, rfl⟩ := Nat.dvd_of_mod_eq_zero aligned
  simpa using listed k (by omega) range

theorem locate_addr_of_mem_regMap {n : Nat} {r : Reg} (h : (n, r) ∈ regMap) : locate (addr n) = .reg r := by
  have listed : ∀ q ∈ regMap, locate (addr q.1) = .reg q.2 := by decide
  exact listed _ h

theorem reset_readReg_of_mem_regMap {n : Nat} {r : Reg} (h : (n, r) ∈ regMap) :
    State.reset.readReg r = resetValue n := by
  have listed : ∀ q ∈ regMap, State.reset.readReg q.2 = resetValue q.1 := by decide
  exact listed _ h

theorem locate_ctrl : locate (addr 0x004) = .reg .ctrl := by decide
theorem locate_status : locate (addr 0x008) = .reg .status := by decide

/-! ## `STATUS` -/

theorem clearDone_eq (s : State) (v : Word) :
    s.clearDone v = { s with status := { s.status with done := s.status.done && !v.getLsbD 1 } } := by
  unfold State.clearDone
  cases v.getLsbD 1 <;> simp

theorem clearErr_eq (s : State) (v : Word) :
    s.clearErr v =
      { s with
        status :=
          { s.status with
            err := s.status.err && !v.getLsbD 2
            errCode := if v.getLsbD 2 then 0 else s.status.errCode }
        errInfo := if v.getLsbD 2 then 0 else s.errInfo } := by
  unfold State.clearErr State.ackErr
  cases v.getLsbD 2 <;> simp

theorem clearAccErr_eq (s : State) (v : Word) :
    s.clearAccErr v = { s with status := { s.status with accErr := s.status.accErr && !v.getLsbD 3 } } := by
  unfold State.clearAccErr
  cases v.getLsbD 3 <;> simp

theorem clearCmdIgn_eq (s : State) (v : Word) :
    s.clearCmdIgn v = { s with status := { s.status with cmdIgn := s.status.cmdIgn && !v.getLsbD 4 } } := by
  unfold State.clearCmdIgn
  cases v.getLsbD 4 <;> simp

/-- Settles O41: the four clears touch different fields, each given by its own equation. -/
theorem statusWriteClearsWhereOne : Obligations.StatusWriteClearsWhereOne := by
  intro s v
  constructor
  · calc s.busWrite (addr 0x008) v
      _ = s.writeStatus v := busWrite_of_locate_reg s v locate_status
      _ = _ := by rw [State.writeStatus, clearDone_eq, clearErr_eq, clearAccErr_eq, clearCmdIgn_eq]
  · exact ⟨_, busRead_of_locate_reg s locate_status⟩

/-- The bits of `STATUS` (10_state.md R33): the flags from bit 0 up, bit 7 being 0, then `ERRCODE` and zeros. -/
theorem statusWord_getLsbD (s : State) (i : Nat) :
    s.statusWord.getLsbD i =
      if i < 8 then
        [s.status.busy, s.status.done, s.status.err, s.status.accErr, s.status.cmdIgn, s.mtx.valid, s.irq].getD i false
      else s.status.errCode.getLsbD (i - 8) := by
  unfold State.statusWord
  refine BitVec.getLsbD_append.trans ?_
  simp only [BitVec.getLsbD_append]
  rcases i with _ | _ | _ | _ | _ | _ | _ | _ | i
  case succ.succ.succ.succ.succ.succ.succ.succ =>
    by_cases inCode : i < 8
    · simp [inCode]
    · simp [inCode, BitVec.getLsbD_of_ge _ _ (Nat.le_of_not_lt inCode)]
  all_goals simp [bit]

theorem statusWord_errCode (s : State) : s.statusWord.extractLsb' 8 8 = s.status.errCode := by
  ext i hi
  simp [statusWord_getLsbD, hi]

theorem statusWord_high (s : State) : s.statusWord.extractLsb' 16 16 = 0#16 := by
  ext i hi
  have pastCode : s.status.errCode.getLsbD (16 + i - 8) = false := BitVec.getLsbD_of_ge _ _ (by omega)
  have pastFlags : ¬ 16 + i < 8 := by omega
  simp [statusWord_getLsbD, pastFlags, pastCode]

/-- Settles O42: `STATUS` reads `statusWord`, and each bit named is one of `statusWord_getLsbD`. -/
theorem statusReadsItsFields : Obligations.StatusReadsItsFields := by
  intro s
  have word : (s.busRead (addr 0x008)).readData = s.statusWord :=
    congrArg State.readData (busRead_of_locate_reg s locate_status)
  simp only [word]
  refine ⟨?_, ?_, ?_, ?_, ?_, ?_, rfl, ?_, ?_, statusWord_errCode s, statusWord_high s⟩ <;>
    exact statusWord_getLsbD s _

/-! ## Reset -/

/-- The registers read the same whatever the memories and the model's own fields hold. -/
theorem readReg_reset_with (data cw : Memory) (agenda : List Move) (readData : Word) (powerOns abandons : Nat) (r : Reg) :
    ({ State.reset with data, cw, agenda, readData, powerOns, abandons } : State).readReg r = State.reset.readReg r := by
  cases r <;> rfl

theorem readReg_powerOnReset (s : State) (r : Reg) : s.powerOnReset.readReg r = State.reset.readReg r :=
  readReg_reset_with ..

theorem readReg_softReset (s : State) (r : Reg) : s.softReset.readReg r = State.reset.readReg r := by
  unfold State.softReset
  split
  · exact readReg_reset_with ..
  · exact readReg_reset_with ..

theorem busWrite_ctrl_srst (s : State) {v : Word} (h : v.getLsbD 0 = true) : s.busWrite (addr 0x004) v = s.softReset :=
  (busWrite_of_locate_reg s v locate_ctrl).trans (if_pos h)

/-- Settles O53: a named offset is listed in the register map, the listed register reads its reset value in the reset state,
and neither reset lets a register read anything else. -/
theorem registersReadTheirResetValues : Obligations.RegistersReadTheirResetValues := by
  intro n s v named srst
  obtain ⟨r, mem⟩ := mem_regMap_of_namedOffset named
  have readsReg (t : State) := busRead_of_locate_reg t (locate_addr_of_mem_regMap mem)
  have value := reset_readReg_of_mem_regMap mem
  refine ⟨?_, ?_, ?_⟩
  · rw [readsReg, value]
  · rw [readsReg, ← value]
    exact readReg_powerOnReset s r
  · rw [busWrite_ctrl_srst s srst, readsReg, ← value]
    exact readReg_softReset s r

end Sys2Proof.Machine
end

section
/-! The address map as the host sees it (20_memory.md R83 to R94): which aligned addresses name nothing, a register or a
window, which of those take no write, and what the two matrix views read. -/

namespace Sys2Proof.Machine

open Sys2Proof.Spec

/-! ## What an address names -/

theorem locate_addr_of_aligned {n : Nat} (bound : n < 0x200000) (aligned : n % 4 = 0) :
    locate (addr n) = locateAligned n := by
  simp [locate, Nat.mod_eq_of_lt bound, aligned]

theorem locate_addr_of_misaligned {n : Nat} (bound : n < 0x200000) (misaligned : n % 4 ≠ 0) :
    locate (addr n) = .misaligned := by
  simp [locate, Nat.mod_eq_of_lt bound, misaligned]

/-- Every offset of the register map is named, so an unnamed one finds no register. -/
theorem lookup_regMap_of_not_namedOffset {n : Nat} (unnamed : ¬ NamedOffset n) : regMap.lookup n = none := by
  have listed : ∀ q ∈ regMap, NamedOffset q.1 := by unfold NamedOffset; decide
  rw [List.lookup_eq_none_iff]
  intro q mem
  simpa using fun eq : n = q.1 => unnamed (eq ▸ listed q mem)

theorem locateAligned_of_unmapped {n : Nat} (h : Unmapped n) : locateAligned n = .unmapped := by
  rcases h with ⟨small, unnamed⟩ | range | range | range | range
  · rw [locateAligned, if_pos small, lookup_regMap_of_not_namedOffset unnamed]
  all_goals simp (disch := omega) only [locateAligned, if_neg, if_pos]

section
/-! The nine windows of 20_memory.md R84, by their ranges. -/

variable {n : Nat}

theorem locateAligned_exp (lo : 0x400 ≤ n) (hi : n < 0x800) : locateAligned n = .window (.exp ((n - 0x400) / 4)) := by
  simp (disch := omega) only [locateAligned, if_neg, if_pos]

theorem locateAligned_log (lo : 0x800 ≤ n) (hi : n < 0xC00) : locateAligned n = .window (.log ((n - 0x800) / 4)) := by
  simp (disch := omega) only [locateAligned, if_neg, if_pos]

theorem locateAligned_poly (lo : 0x1000 ≤ n) (hi : n < 0x2000) :
    locateAligned n = .window (.poly (PReg.ofNumber ((n - 0x1000) / 0x400)) ((n - 0x1000) % 0x400 / 4)) := by
  simp (disch := omega) only [locateAligned, if_neg, if_pos]

theorem locateAligned_eco (lo : 0x2000 ≤ n) (hi : n < 0x2400) :
    locateAligned n = .window (.eco ((n - 0x2000) / 4)) := by
  simp (disch := omega) only [locateAligned, if_neg, if_pos]

theorem locateAligned_syn (lo : 0x2400 ≤ n) (hi : n < 0x2800) :
    locateAligned n = .window (.syn ((n - 0x2400) / 4)) := by
  simp (disch := omega) only [locateAligned, if_neg, if_pos]

theorem locateAligned_data (lo : 0x4000 ≤ n) (hi : n < 0x8000) :
    locateAligned n = .window (.data ((n - 0x4000) / 4)) := by
  simp (disch := omega) only [locateAligned, if_neg, if_pos]

theorem locateAligned_cw (lo : 0x8000 ≤ n) (hi : n < 0xC000) : locateAligned n = .window (.cw ((n - 0x8000) / 4)) := by
  simp (disch := omega) only [locateAligned, if_neg, if_pos]

theorem locateAligned_raw (lo : 0x40000 ≤ n) (hi : n < 0x80000) :
    locateAligned n = .window (.raw ((n - 0x40000) / 4 % 256) ((n - 0x40000) / 4 / 256)) := by
  simp (disch := omega) only [locateAligned, if_neg, if_pos]

theorem locateAligned_out (lo : 0x100000 ≤ n) :
    locateAligned n = .window (.out ((n - 0x100000) / 4 % 512) ((n - 0x100000) / 4 / 512)) := by
  simp (disch := omega) only [locateAligned, if_neg]

/-- The seven read-only windows (20_memory.md R87). -/
theorem locateAligned_of_readOnly (window : 0x400 ≤ n) (h : ReadOnly n) :
    ∃ w, locateAligned n = .window w ∧ ∀ (s : State) (v : Word), s.writeWindow v w = s.accessError := by
  have range : n < 0x800 ∨ (0x800 ≤ n ∧ n < 0xC00) ∨ (0x1000 ≤ n ∧ n < 0x2000) ∨ (0x2000 ≤ n ∧ n < 0x2400) ∨
      (0x2400 ≤ n ∧ n < 0x2800) ∨ (0x40000 ≤ n ∧ n < 0x80000) ∨ 0x100000 ≤ n := by
    unfold ReadOnly at h; omega
  rcases range with hi | ⟨lo, hi⟩ | ⟨lo, hi⟩ | ⟨lo, hi⟩ | ⟨lo, hi⟩ | ⟨lo, hi⟩ | lo
  · exact ⟨_, locateAligned_exp window hi, fun _ _ => rfl⟩
  · exact ⟨_, locateAligned_log lo hi, fun _ _ => rfl⟩
  · exact ⟨_, locateAligned_poly lo hi, fun _ _ => rfl⟩
  · exact ⟨_, locateAligned_eco lo hi, fun _ _ => rfl⟩
  · exact ⟨_, locateAligned_syn lo hi, fun _ _ => rfl⟩
  · exact ⟨_, locateAligned_raw lo hi, fun _ _ => rfl⟩
  · exact ⟨_, locateAligned_out lo, fun _ _ => rfl⟩

/-- From 0x400 on there is no register: what is mapped is a window, a read-only one, `DATA` or `CW`. -/
theorem locateAligned_of_mapped (window : 0x400 ≤ n) (bound : n < 0x200000) (mapped : ¬ Unmapped n) :
    ∃ w, locateAligned n = .window w := by
  have range : ReadOnly n ∨ (0x4000 ≤ n ∧ n < 0x8000) ∨ (0x8000 ≤ n ∧ n < 0xC000) := by
    unfold Unmapped at mapped; unfold ReadOnly; omega
  rcases range with readOnly | ⟨lo, hi⟩ | ⟨lo, hi⟩
  · obtain ⟨w, loc, -⟩ := locateAligned_of_readOnly window readOnly
    exact ⟨w, loc⟩
  · exact ⟨_, locateAligned_data lo hi⟩
  · exact ⟨_, locateAligned_cw lo hi⟩

end

/-! ## Accesses that only set `ACC_ERR` -/

theorem bus_of_locate_nothing {a : BusAddr} (s : State) (v : Word) (h : locate a = .misaligned ∨ locate a = .unmapped) :
    s.busRead a = { s.accessError with readData := 0 } ∧ s.busWrite a v = s.accessError := by
  rcases h with misaligned | unmapped
  · simp [State.busRead, State.busWrite, State.readLocation, misaligned]
  · simp [State.busRead, State.busWrite, State.readLocation, unmapped]

/-- Settles O44: the address names nothing, being misaligned or else unmapped. -/
theorem misalignedAndUnmappedSetAccErr : Obligations.MisalignedAndUnmappedSetAccErr := by
  intro s n v bound h
  apply bus_of_locate_nothing
  by_cases aligned : n % 4 = 0
  · rw [locate_addr_of_aligned bound aligned]
    exact .inr (locateAligned_of_unmapped (h.resolve_left (· aligned)))
  · exact .inl (locate_addr_of_misaligned bound aligned)

/-- The registers a host write can change (10_state.md R32 to R44). -/
def readWriteRegs : List Reg :=
  [.ctrl, .status, .cmd, .arg0, .arg1, .cfgVersion, .cfgEcc, .cfgMask, .cfgQz, .dlen]

theorem writeReg_of_not_mem_readWriteRegs {r : Reg} (s : State) (v : Word) (h : r ∉ readWriteRegs) :
    s.writeReg v r = s.accessError := by
  have notStored : s.storeReg v r = none := by cases r <;> simp_all [readWriteRegs, State.storeReg]
  simp only [readWriteRegs, List.mem_cons, not_or] at h
  simp [State.writeReg, notStored, h]

theorem not_mem_readWriteRegs_of_readOnly {n : Nat} {r : Reg} (mem : (n, r) ∈ regMap) (h : ReadOnly n) :
    r ∉ readWriteRegs := by
  have listed : ∀ q ∈ regMap, ReadOnly q.1 → q.2 ∉ readWriteRegs := by unfold ReadOnly NamedOffset; decide
  exact listed _ mem h

theorem busWrite_of_locate_window {a : BusAddr} {w : Window} (s : State) (v : Word) (h : locate a = .window w) :
    s.busWrite a v = if s.status.busy then s.accessError else s.writeWindow v w := by
  simp only [State.busWrite, h]

/-- Settles O45: a read-only address names a register outside `readWriteRegs` or a window that takes no write, locked or not. -/
theorem readOnlyWritesSetAccErr : Obligations.ReadOnlyWritesSetAccErr := by
  intro s n v aligned readOnly
  rcases Nat.lt_or_ge n 0x400 with small | window
  · have named : NamedOffset n := by unfold ReadOnly at readOnly; unfold NamedOffset at *; omega
    obtain ⟨r, mem⟩ := mem_regMap_of_namedOffset named
    rw [busWrite_of_locate_reg s v (locate_addr_of_mem_regMap mem)]
    exact writeReg_of_not_mem_readWriteRegs s v (not_mem_readWriteRegs_of_readOnly mem readOnly)
  · have bound : n < 0x200000 := by unfold ReadOnly at readOnly; omega
    obtain ⟨w, loc, refuses⟩ := locateAligned_of_readOnly window readOnly
    rw [busWrite_of_locate_window s v ((locate_addr_of_aligned bound aligned).trans loc), refuses, ite_self]
    rfl

/-! ## While `BUSY` -/

theorem busRead_of_locate_window_of_busy {s : State} {a : BusAddr} {w : Window} (busy : s.status.busy = true)
    (h : locate a = .window w) : s.busRead a = { s.accessError with readData := 0 } := by
  simp only [State.busRead, h, State.readLocation, busy, if_true]

theorem writeReg_of_busy {s : State} {r : Reg} (v : Word) (busy : s.status.busy = true)
    (h : r ∉ [Reg.ctrl, .status, .cmd]) : s.writeReg v r = s.accessError := by
  simp only [List.mem_cons, not_or] at h
  simp [State.writeReg, busy, h]

/-- Settles O46: from 0x400 on an address is misaligned, unmapped or names a locked window; the offsets of the register map
other than those of `CTRL`, `STATUS` and `CMD` name other registers. -/
theorem busyLocksTheCore : Obligations.BusyLocksTheCore := by
  intro s n v busy bound
  refine ⟨fun window => ?_, fun named notCtrl notStatus notCmd => ?_, fun named => ?_⟩
  · by_cases nothing : n % 4 ≠ 0 ∨ Unmapped n
    · exact misalignedAndUnmappedSetAccErr s n v bound nothing
    · obtain ⟨aligned, mapped⟩ := not_or.mp nothing
      obtain ⟨w, loc⟩ := locateAligned_of_mapped window bound mapped
      have named := (locate_addr_of_aligned bound (not_not.mp aligned)).trans loc
      exact ⟨busRead_of_locate_window_of_busy busy named, (busWrite_of_locate_window s v named).trans (if_pos busy)⟩
  · obtain ⟨r, mem⟩ := mem_regMap_of_namedOffset named
    have listed : ∀ q ∈ regMap, q.2 ∈ [Reg.ctrl, .status, .cmd] → q.1 = 0x004 ∨ q.1 = 0x008 ∨ q.1 = 0x00C := by decide
    have other : r ∉ [Reg.ctrl, .status, .cmd] := fun isOne => by have := listed _ mem isOne; omega
    exact (busWrite_of_locate_reg s v (locate_addr_of_mem_regMap mem)).trans (writeReg_of_busy v busy other)
  · obtain ⟨r, mem⟩ := mem_regMap_of_namedOffset named
    exact ⟨_, busRead_of_locate_reg s (locate_addr_of_mem_regMap mem)⟩

/-! ## The matrix views -/

theorem busRead_of_locate_window {s : State} {a : BusAddr} {w : Window} (idle : s.status.busy = false)
    (h : locate a = .window w) : s.busRead a = { s with readData := s.readWindow w } := by
  simp [State.busRead, h, State.readLocation, idle]

theorem locate_addr_raw {x y : Nat} (hx : x < 256) (hy : y < 256) :
    locate (addr (0x40000 + 4 * (256 * y + x))) = .window (.raw x y) := by
  rw [locate_addr_of_aligned (by omega) (by omega), locateAligned_raw (by omega) (by omega)]
  congr 2 <;> omega

theorem locate_addr_out {x y : Nat} (hx : x < 512) (hy : y < 512) :
    locate (addr (0x100000 + 4 * (512 * y + x))) = .window (.out x y) := by
  rw [locate_addr_of_aligned (by omega) (by omega), locateAligned_out (by omega)]
  congr 2 <;> omega

/-- The two spellings of `(type << 8) | dark` (20_memory.md R91): bits put side by side, and a sum. -/
theorem cellWord_eq_rawValue (c : Cell) : cellWord c = rawValue c := by
  obtain ⟨type, dark⟩ := c
  cases type <;> cases dark <;> decide

theorem rawWord_eq (s : State) (x y : Nat) :
    s.rawWord x y =
      if s.mtx.valid = true ∧ x < s.mtx.n.toNat ∧ y < s.mtx.n.toNat then rawValue (s.mtx.cells.at x y) else 0 := by
  rw [State.rawWord, cellWord_eq_rawValue]
  rfl

/-- Settles O51: the address is that of a raw window entry, whose word is `rawWord_eq`. -/
theorem rawViewReadsTheMatrix : Obligations.RawViewReadsTheMatrix := by
  intro s x y idle hx hy
  rw [busRead_of_locate_window idle (locate_addr_raw hx hy), ← rawWord_eq]
  rfl

theorem outQz_eq (s : State) : s.outQz = if s.mtx.valid = true then border s else 0 := by
  unfold State.outQz State.mtxN border
  cases s.mtx.valid <;> simp

theorem outSize_eq (s : State) : s.outSize = if s.mtx.valid = true then s.mtx.n.toNat + 2 * border s else 0 := by
  rw [State.outSize, outQz_eq]
  split <;> rfl

theorem outWord_of_no_matrix {s : State} (x y : Nat) (h : s.mtx.valid = false) : s.outWord x y = 0 := by
  simp [State.outWord, h]

/-- Within the border the raw view is read at a cell of the matrix, never outside it. -/
theorem outWord_of_matrix {s : State} (x y : Nat) (h : s.mtx.valid = true) :
    s.outWord x y =
      if s.mtx.n.toNat + 2 * border s ≤ x ∨ s.mtx.n.toNat + 2 * border s ≤ y then 0
      else if border s ≤ x ∧ x < border s + s.mtx.n.toNat ∧ border s ≤ y ∧ y < border s + s.mtx.n.toNat then
        rawValue (s.mtx.cells.at (x - border s) (y - border s))
      else 0x00000900#32 := by
  have quiet : cellWord { type := .quietZone, dark := false } = 0x00000900#32 := by decide
  simp only [State.outWord, State.mtxN, outSize_eq, outQz_eq, rawWord_eq, quiet, h, if_true, not_true_eq_false, false_or,
    true_and, ge_iff_le]
  split
  case isTrue => rfl
  case isFalse =>
    split
    case isFalse => rfl
    case isTrue inside => rw [if_pos ⟨by omega, by omega⟩]

/-- Settles O52: by whether there is a matrix; the two registers read `outQz` and `outSize`, also while `BUSY`. -/
theorem outputViewAddsTheQuietZone : Obligations.OutputViewAddsTheQuietZone := by
  intro s x y idle hx hy N q
  have qz : locate (addr 0x090) = .reg .outQz := locate_addr_of_mem_regMap (by decide)
  have size : locate (addr 0x094) = .reg .outSize := locate_addr_of_mem_regMap (by decide)
  rw [busRead_of_locate_window idle (locate_addr_out hx hy), busRead_of_locate_reg s qz, busRead_of_locate_reg s size]
  simp only [State.readWindow, State.readReg, outQz_eq, outSize_eq]
  cases valid : s.mtx.valid with
  | false => simp [outWord_of_no_matrix x y valid, wordOf]
  | true => simp [outWord_of_matrix x y valid, N, q]

end Sys2Proof.Machine
end

section
/-! Decoding as the rules state it (30_encoding.md R116, R119, R120): the reserved fields of a format are the bits of one mask,
and the opcode decides which mask. -/

namespace Sys2Proof.Machine

open Sys2Proof.Spec

/-! ## Fields and their masks -/

/-- The word with 1 in the bits of the field of `len` bits from bit `lo` up. -/
def fieldOnes (lo len : Nat) : Word := (BitVec.allOnes len).setWidth 32 <<< lo

/-- The word with 1 in the bits of every listed field. -/
def onesOf (fields : List (Nat × Nat)) : Word := fields.foldr (fun f mask => fieldOnes f.1 f.2 ||| mask) 0

theorem fieldOnes_getLsbD (lo len i : Nat) :
    (fieldOnes lo len).getLsbD i = decide (i < 32 ∧ lo ≤ i ∧ i < lo + len) := by
  have inside : lo ≤ i → (i - lo < len ↔ i < lo + len) := by omega
  by_cases word : i < 32 <;> by_cases above : lo ≤ i <;> simp [fieldOnes, word, above, inside]

/-- The mask keeps the field, in place. -/
theorem and_fieldOnes (w : Word) (lo len : Nat) : w &&& fieldOnes lo len = (field w lo len).setWidth 32 <<< lo := by
  apply BitVec.eq_of_getLsbD_eq
  intro i word
  rw [BitVec.getLsbD_and, fieldOnes_getLsbD]
  by_cases above : lo ≤ i
  · have inside : i - lo < len ↔ i < lo + len := by omega
    have offset : i - lo < 32 := by omega
    simp [-BitVec.getLsbD_eq_getElem, word, above, inside, offset, Nat.not_lt.mpr above, Bool.and_comm]
  · simp [above, Nat.lt_of_not_le above]

/-- The field does not see the bits the mask clears. -/
theorem field_and_fieldOnes (w : Word) (lo len : Nat) : field (w &&& fieldOnes lo len) lo len = field w lo len := by
  apply BitVec.eq_of_getLsbD_eq
  intro i short
  rw [BitVec.getLsbD_extractLsb', BitVec.getLsbD_extractLsb', BitVec.getLsbD_and, fieldOnes_getLsbD]
  by_cases word : lo + i < 32
  · simp [short, word]
  · simp [BitVec.getLsbD_of_ge w (lo + i) (Nat.le_of_not_lt word)]

theorem field_eq_zero_iff (w : Word) (lo len : Nat) : field w lo len = 0 ↔ w &&& fieldOnes lo len = 0 := by
  constructor
  · intro zero
    simp [and_fieldOnes, zero]
  · intro zero
    rw [← field_and_fieldOnes, zero]
    simp

theorem and_or_eq_zero_iff (w a b : Word) : w &&& (a ||| b) = 0 ↔ w &&& a = 0 ∧ w &&& b = 0 := by
  rw [BitVec.and_or_distrib_left]
  exact BitVec.or_eq_zero_iff

theorem allZero_iff (w : Word) (fields : List (Nat × Nat)) : allZero w fields = true ↔ w &&& onesOf fields = 0 := by
  induction fields with
  | nil => simp [allZero, onesOf]
  | cons f fs ih =>
    calc allZero w (f :: fs) = true
      _ ↔ field w f.1 f.2 = 0 ∧ allZero w fs = true := by simp [allZero, BitVec.toNat_eq]
      _ ↔ w &&& fieldOnes f.1 f.2 = 0 ∧ w &&& onesOf fs = 0 := by rw [field_eq_zero_iff, ih]
      _ ↔ w &&& onesOf (f :: fs) = 0 := (and_or_eq_zero_iff ..).symm

theorem unlessReserved_eq (w : Word) (fields : List (Nat × Nat)) (i : Instr) :
    unlessReserved w fields i = if w &&& onesOf fields = 0 then .ok i else .error .reserved := by
  simp only [unlessReserved, allZero_iff]

/-! ## What the opcode decides -/

theorem opcOf_toNat (w : Word) : (opcOf w).toNat = opcodeBits w := by
  rw [opcOf, field_toNat, opcodeBits]
  omega

/-- 30_encoding.md R119: the opcode map has no entry for an unassigned opcode. -/
theorem decode_of_unassigned {w : Word} (h : Unassigned (opcodeBits w)) : decode w = .error .illegalOpc := by
  rw [← opcOf_toNat, Unassigned] at h
  unfold decode
  split
  case h_17 => rfl
  all_goals omega

/-- 30_encoding.md R116: an assigned opcode has one command and one list of fields that must be 0, those of R116's mask. -/
theorem decode_eq_unlessReserved {w : Word} (h : ¬ Unassigned (opcodeBits w)) :
    ∃ fields i, decode w = unlessReserved w fields i ∧ onesOf fields = mustBeZero (opcodeBits w) := by
  rw [← opcOf_toNat] at h ⊢
  unfold decode
  split
  case h_17 =>
    simp only [imp_false, Unassigned] at *
    omega
  all_goals
    rename_i opc
    rw [opc]
    exact ⟨_, _, rfl, by decide⟩

theorem decode_of_assigned {w : Word} (h : ¬ Unassigned (opcodeBits w)) :
    ∃ i, decode w = if w &&& mustBeZero (opcodeBits w) = 0 then .ok i else .error .reserved := by
  obtain ⟨fields, i, decoded, mask⟩ := decode_eq_unlessReserved h
  exact ⟨i, by rw [decoded, unlessReserved_eq, mask]⟩

/-- Settles O3: an unassigned opcode has no entry in the decoder; with an assigned one the only refusal is `E_RESERVED`. -/
theorem unassignedOpcodeCompletesAsIllegal : Obligations.UnassignedOpcodeCompletesAsIllegal := by
  intro s busy
  refine ⟨fun unassigned => engineTurn_noCommand busy (decode_of_unassigned unassigned), fun assigned => ?_⟩
  obtain ⟨i, decoded⟩ := decode_of_assigned assigned
  rw [decoded]
  split <;> simp

/-- Settles O4: an assigned opcode decodes by its mask alone. -/
theorem reservedBitCompletesAsReserved : Obligations.ReservedBitCompletesAsReserved := by
  intro s busy assigned
  obtain ⟨i, decoded⟩ := decode_of_assigned assigned
  exact ⟨fun reserved => engineTurn_noCommand busy (decoded.trans (if_neg reserved)),
    fun zero => ⟨i, decoded.trans (if_pos zero)⟩⟩

end Sys2Proof.Machine
end

section
/-! The write of `CMD` (60_exceptions.md R320, R321): `BUSY` and `ERR` decide whether the word is accepted or ignored. -/

namespace Sys2Proof.Machine

open Sys2Proof.Spec

theorem locate_cmd : locate (addr 0x00C) = .reg .cmd := by decide

theorem busWrite_cmd (s : State) (w : Word) : s.busWrite (addr 0x00C) w = s.writeCmd w :=
  busWrite_of_locate_reg s w locate_cmd

theorem writeCmd_of_ready {s : State} (w : Word) (idle : s.status.busy = false) (noError : s.status.err = false) :
    s.writeCmd w = s.accept w := by
  simp [State.writeCmd, idle, noError]

theorem writeCmd_of_blocked {s : State} (w : Word) (blocked : s.status.busy = true ∨ s.status.err = true) :
    s.writeCmd w = s.ignoreCmd :=
  if_pos blocked

/-- Settles O40: offset 0x00C names `CMD`, whose write is an acceptance when the core is ready and else only sets `CMD_IGN`. -/
theorem cmdWriteIsAcceptedOrIgnored : Obligations.CmdWriteIsAcceptedOrIgnored := by
  intro s w
  rw [busWrite_cmd]
  exact ⟨writeCmd_of_ready w, writeCmd_of_blocked w⟩

end Sys2Proof.Machine
end

section
/-! The encoder and the decoder are inverse to each other (30_encoding.md R110 to R121): a word is its opcode and its fields, and
an encoded word holds each operand in the field the decoder reads. -/

namespace Sys2Proof

/-! ## The fields of a word as numbers -/

theorem PReg.index_ofField (f : BitVec 2) : (PReg.ofField f).index.val = f.toNat := by
  revert f; decide

theorem PReg.ofField_of_toNat {f : BitVec 2} {k : PReg} (h : f.toNat = k.index.val) : PReg.ofField f = k :=
  Machine.PReg.index_injective (Fin.ext ((index_ofField f).trans h))

theorem Src.bit_lt (src : Src) : src.bit < 2 := by cases src <;> decide

theorem Src.bit_injective {a b : Src} (h : a.bit = b.bit) : a = b := by
  revert h; cases a <;> cases b <;> decide

theorem bit_fieldSrc (w : Word) : (fieldSrc w).bit = (field w 16 1).toNat := by
  have bits : ∀ f : BitVec 1, (if f = 0 then Src.data else .cw).bit = f.toNat := by decide
  exact bits _

theorem allZero_nil (w : Word) : allZero w [] = true := rfl

theorem allZero_cons (w : Word) (f : Nat × Nat) (fs : List (Nat × Nat)) :
    allZero w (f :: fs) = true ↔ w.toNat / 2 ^ f.1 % 2 ^ f.2 = 0 ∧ allZero w fs = true := by
  simp [allZero, Nat.shiftRight_eq_div_pow]

/-! ## The number of an encoded command -/

/-- The part of a command's word below its opcode (30_encoding.md R111 to R115, R121). -/
def Instr.operands : Instr → Nat
  | .gfMul a b => a.toNat * 2 ^ 16 + b.toNat * 2 ^ 8
  | .gfExp a | .gfLog a => a.toNat * 2 ^ 16
  | .pSetNum d n | .rsGen d n => d.index.val * 2 ^ 20 + n
  | .pMul d a b | .pMod d a b => d.index.val * 2 ^ 20 + a.index.val * 2 ^ 16 + b.index.val * 2 ^ 12
  | .rsEnc src ec | .rsSyn src ec => src.bit * 2 ^ 16 + ec
  | .mtxBuild mask => mask
  | .nop | .blkCfg | .interleave | .maskScore | .mtxFinal | .run => 0

theorem encode_eq_commandWord (i : Instr) : encode i = commandWord i.opcode i.operands := by cases i <;> rfl

theorem Instr.operands_lt {i : Instr} (wf : i.WellFormed) : i.operands < 2 ^ 24 := by
  cases i with
  | gfMul a b => have := a.isLt; have := b.isLt; simp only [operands]; omega
  | gfExp a | gfLog a => have := a.isLt; simp only [operands]; omega
  | pSetNum d n | rsGen d n =>
    have := d.index.isLt; have : n < 256 := fitsImm8_iff.mp wf; simp only [operands]; omega
  | pMul d a b | pMod d a b =>
    have := d.index.isLt; have := a.index.isLt; have := b.index.isLt; simp only [operands]; omega
  | rsEnc src ec | rsSyn src ec =>
    have := src.bit_lt; have : ec < 256 := fitsImm8_iff.mp wf; simp only [operands]; omega
  | mtxBuild mask => have : mask < 8 := fitsMask_iff.mp wf; simp only [operands]; omega
  | nop | blkCfg | interleave | maskScore | mtxFinal | run => decide

theorem Instr.opcode_lt (i : Instr) : i.opcode < 2 ^ 8 := by cases i <;> simp [opcode]

theorem encode_toNat {i : Instr} (wf : i.WellFormed) : (encode i).toNat = i.opcode * 2 ^ 24 + i.operands := by
  rw [encode_eq_commandWord, commandWord_toNat i.opcode_lt (Instr.operands_lt wf)]

/-! ## The two round trips -/

/-- Decoding in its three parts: the opcode's entry, the fields that must be 0, and the operands. -/
theorem decode_eq_ok {w : Word} {fields : List (Nat × Nat)} {i j : Instr} (entry : decode w = unlessReserved w fields i)
    (zero : allZero w fields = true) (operands : i = j) : decode w = .ok j := by
  rw [entry, unlessReserved, if_pos zero, operands]

/-- Settles O1: the number of the encoded word gives its opcode, hence the decoder's entry, and every field that entry reads. -/
theorem decodeOfEncodeIsTheCommand : Obligations.DecodeOfEncodeIsTheCommand := by
  intro i wf
  have word := encode_toNat wf
  have small := Instr.operands_lt wf
  have opcode : (opcOf (encode i)).toNat = i.opcode := by
    have := i.opcode_lt
    rw [opcOf, field_toNat, word]; omega
  have entry := decode.eq_1 (encode i)
  rw [opcode] at entry
  generalize encode i = w at *
  cases i <;> simp only [Instr.opcode, Instr.operands] at *
  case nop | blkCfg | interleave | maskScore | mtxFinal | run =>
    refine decode_eq_ok entry ?_ rfl
    simp [zerosZ, allZero_cons, allZero_nil, word]
  case gfMul a b =>
    refine decode_eq_ok entry ?_ ?_
    · simp only [zerosG, allZero_cons, allZero_nil, and_true]; omega
    · congr 1 <;> refine BitVec.eq_of_toNat_eq ((field_toNat ..).trans ?_) <;> omega
  case gfExp a | gfLog a =>
    refine decode_eq_ok entry ?_ ?_
    · simp only [zerosG, unusedB, List.cons_append, List.nil_append, allZero_cons, allZero_nil, and_true]; omega
    · congr 1; refine BitVec.eq_of_toNat_eq ((field_toNat ..).trans ?_); omega
  case pSetNum d n | rsGen d n =>
    have := fitsImm8_iff.mp wf
    refine decode_eq_ok entry ?_ ?_
    · simp only [zerosP, unusedPAPB, List.cons_append, List.nil_append, allZero_cons, allZero_nil, and_true]; omega
    · congr 1
      · refine PReg.ofField_of_toNat ((field_toNat ..).trans ?_); omega
      · refine (field_toNat ..).trans ?_; omega
  case pMul d a b | pMod d a b =>
    have := d.index.isLt; have := a.index.isLt; have := b.index.isLt
    refine decode_eq_ok entry ?_ ?_
    · simp only [zerosP, unusedImm8, List.cons_append, List.nil_append, allZero_cons, allZero_nil, and_true]; omega
    · congr 1 <;> refine PReg.ofField_of_toNat ((field_toNat ..).trans ?_) <;> omega
  case rsEnc src ec | rsSyn src ec =>
    have := src.bit_lt; have := fitsImm8_iff.mp wf
    refine decode_eq_ok entry ?_ ?_
    · simp only [zerosS, allZero_cons, allZero_nil, and_true]; omega
    · congr 1
      · refine Src.bit_injective ((bit_fieldSrc w).trans ((field_toNat ..).trans ?_)); omega
      · refine (field_toNat ..).trans ?_; omega
  case mtxBuild mask =>
    have := fitsMask_iff.mp wf
    refine decode_eq_ok entry ?_ ?_
    · simp only [zerosM, allZero_cons, allZero_nil, and_true]; omega
    · congr 1; refine (field_toNat ..).trans ?_; omega

/-- Settles O2: the opcode, the fields that are 0 and the operands are all 32 bits of the word. -/
theorem encodeOfDecodeIsTheWord : Obligations.EncodeOfDecodeIsTheWord := by
  intro w i decoded
  have bound := w.isLt
  have wf := decode_wellFormed decoded
  have number : i.opcode * 2 ^ 24 + i.operands = w.toNat := by
    unfold decode at decoded
    split at decoded
    case h_17 => cases decoded
    all_goals
      rename_i opcode
      obtain ⟨zero, rfl⟩ := unlessReserved_eq_ok decoded
      rw [opcOf, field_toNat] at opcode
      simp only [zerosZ, zerosG, zerosP, zerosS, zerosM, unusedB, unusedPAPB, unusedImm8, List.cons_append,
        List.nil_append, allZero_cons, allZero_nil] at zero
      simp only [Instr.opcode, Instr.operands, fieldPD, fieldPA, fieldPB, PReg.index_ofField, bit_fieldSrc, fieldA,
        fieldB, fieldImm8, fieldMask, field_toNat, Nat.zero_mul]
      omega
  exact BitVec.eq_of_toNat_eq ((encode_toNat wf).trans number)

/-- Settles O5: each word is evaluated. -/
theorem wordsOfTheSpecDecode : Obligations.WordsOfTheSpecDecode := by
  unfold Obligations.WordsOfTheSpecDecode
  decide

end Sys2Proof

end

section
/-! What each command answers, as one equation per body: which checks it makes, in which order, and the state it gives
(41_gf.md, 42_rs.md, 43_blocks.md, 44_matrix.md, 45_mask.md, 46_sequencer.md). The statements over all commands follow. -/

namespace Sys2Proof.Machine

open Sys2Proof.Spec

/-! ## The spec's reading of the operands -/

theorem streamOf_eq (s : State) (src : Src) : streamOf s src = s.stream src := by cases src <;> rfl

theorem codewords_eq (s : State) : codewords s = s.prefixOf .cw (configTable s).tcw := rfl

theorem wordOf_toNat {n : Nat} (v : BitVec n) : wordOf v.toNat = v.setWidth 32 := by
  apply BitVec.eq_of_toNat_eq; simp

theorem matrixOf_eq (s : State) (p : Nat) : matrixOf s p = s.builtMtx (configTable s) p := by
  rw [State.builtMtx, ← wordOf_toNat s.cfgEcc]
  rfl

/-! ## The checks -/

theorem checkRange_eq (s : State) :
    s.checkRange = if InRange s then .ok () else .error { code := .range, info := wordOf (s.arg0.toNat + s.arg1.toNat) } := by
  split
  case isTrue h => exact checkRange_ok h
  case isFalse h => exact checkRange_error (Nat.lt_of_not_le h)

theorem checkPolyLen_eq (n : Nat) :
    checkPolyLen n = if n ≤ 256 then .ok () else .error { code := .polyLen, info := wordOf n } := by
  split
  case isTrue h => exact checkPolyLen_ok h
  case isFalse h => exact checkPolyLen_error (Nat.lt_of_not_le h)

theorem checkConfig_eq (s : State) :
    s.checkConfig =
      if LegalVersion s then .ok (configTable s) else .error { code := .invalidOption, info := wordOf s.cfgVersion.toNat } := by
  rw [wordOf_toNat]
  rfl

theorem wordOf_shiftLeft (n k : Nat) : wordOf n <<< k = wordOf (n <<< k) := by
  apply BitVec.eq_of_toNat_eq
  rw [BitVec.toNat_shiftLeft, BitVec.toNat_ofNat, BitVec.toNat_ofNat, Nat.shiftLeft_eq, Nat.shiftLeft_eq, Nat.mod_mul_mod]

/-- `(TDATA << 16) | DLEN` is a sum, `DLEN` having 13 bits. -/
theorem shift_or_dlen (n : Nat) (d : BitVec 13) : wordOf n <<< 16 ||| d.setWidth 32 = wordOf (n * 2 ^ 16 + d.toNat) := by
  have small : d.toNat < 2 ^ 16 := by have := d.isLt; omega
  rw [wordOf_shiftLeft, ← wordOf_toNat, ← BitVec.ofNat_or, ← Nat.shiftLeft_add_eq_or_of_lt small, Nat.shiftLeft_eq]

theorem checkCount_eq (s : State) (P : BlockParams) :
    s.checkCount P =
      if s.dlen.toNat = P.tdata then .ok ()
      else .error { code := .cwCount, info := wordOf (P.tdata * 2 ^ 16 + s.dlen.toNat) } := by
  rw [← shift_or_dlen]
  rfl

/-! ## The bodies -/

theorem bind_ok {ε α β : Type} (a : α) (f : α → Except ε β) : (Except.ok a >>= f) = f a := rfl

theorem bind_error {ε α β : Type} (e : ε) (f : α → Except ε β) : (Except.error e >>= f) = .error e := rfl

theorem commandBody_pSetNum (d : PReg) (shift : Nat) (s : State) :
    commandBody (.pSetNum d shift) s =
      if InRange s then
        if (shifted (normalize (s.stream .data)) shift).length ≤ 256 then
          .ok (s.writePoly d (shifted (normalize (s.stream .data)) shift))
        else .error { code := .polyLen, info := wordOf (shifted (normalize (s.stream .data)) shift).length }
      else .error { code := .range, info := wordOf (s.arg0.toNat + s.arg1.toNat) } := by
  rw [commandBody, pSetNumBody, checkRange_eq]
  split
  · simp only [bind_ok, checkPolyLen_eq]
    split <;> rfl
  · rfl

theorem commandBody_pMul (d a b : PReg) (s : State) :
    commandBody (.pMul d a b) s =
      if productLen (s.readPoly a) (s.readPoly b) ≤ 256 then
        .ok (s.writePoly d (polymul (s.readPoly a) (s.readPoly b)))
      else .error { code := .polyLen, info := wordOf (productLen (s.readPoly a) (s.readPoly b)) } := by
  rw [commandBody, pMulBody, checkPolyLen_eq]
  split <;> rfl

theorem commandBody_rsEnc (src : Src) (ec : Nat) (s : State) :
    commandBody (.rsEnc src ec) s =
      if InRange s then .ok (s.writeEco (ecwords (s.stream src) ec))
      else .error { code := .range, info := wordOf (s.arg0.toNat + s.arg1.toNat) } := by
  rw [commandBody, rsEncBody, checkRange_eq]
  split <;> rfl

theorem commandBody_rsSyn (src : Src) (ec : Nat) (s : State) :
    commandBody (.rsSyn src ec) s =
      if InRange s then
        .ok ((s.writeSyn (syndromes (s.stream src) ec)).writeResult
          (if (syndromes (s.stream src) ec).all (· == 0) then 1 else 0))
      else .error { code := .range, info := wordOf (s.arg0.toNat + s.arg1.toNat) } := by
  rw [commandBody, rsSynBody, checkRange_eq]
  split <;> rfl

theorem commandBody_blkCfg (s : State) :
    commandBody .blkCfg s =
      if LegalVersion s then .ok (s.writeBlk (configTable s).regs)
      else .error { code := .invalidOption, info := wordOf s.cfgVersion.toNat } := by
  rw [commandBody, blkCfgBody, checkConfig_eq]
  split <;> rfl

theorem commandBody_interleave (s : State) :
    commandBody .interleave s =
      if LegalVersion s then
        if s.dlen.toNat = (configTable s).tdata then
          .ok ((s.writeCwRun (s.interleavedData (configTable s))).writeBlk (configTable s).regs)
        else .error { code := .cwCount, info := wordOf ((configTable s).tdata * 2 ^ 16 + s.dlen.toNat) }
      else .error { code := .invalidOption, info := wordOf s.cfgVersion.toNat } := by
  rw [commandBody, interleaveBody, checkConfig_eq]
  split
  · rw [bind_ok, checkCount_eq]
    split <;> rfl
  · rfl

theorem commandBody_mtxBuild (mask : Nat) (s : State) :
    commandBody (.mtxBuild mask) s =
      if LegalVersion s then .ok ((s.writeMtx (matrixOf s mask)).writeBlk (configTable s).regs)
      else .error { code := .invalidOption, info := wordOf s.cfgVersion.toNat } := by
  rw [commandBody, mtxBuildBody, checkConfig_eq, matrixOf_eq]
  split <;> rfl

theorem commandBody_mtxFinal (s : State) :
    commandBody .mtxFinal s =
      if LegalVersion s then .ok (s.final (configTable s))
      else .error { code := .invalidOption, info := wordOf s.cfgVersion.toNat } := by
  rw [commandBody, mtxFinalBody, checkConfig_eq]
  split <;> rfl

/-- `INTERLEAVE` leaves the configuration, so `MTX_FINAL` does not fail after it. -/
theorem commandBody_run (s : State) :
    commandBody .run s =
      if LegalVersion s then
        if s.dlen.toNat = (configTable s).tdata then
          .ok (((s.writeCwRun (s.interleavedData (configTable s))).writeBlk (configTable s).regs).final (configTable s))
        else .error { code := .cwCount, info := wordOf ((configTable s).tdata * 2 ^ 16 + s.dlen.toNat) }
      else .error { code := .invalidOption, info := wordOf s.cfgVersion.toNat } := by
  have first : interleaveBody s = _ := commandBody_interleave s
  rw [commandBody, runBody, first]
  split
  case isTrue legal =>
    split
    · exact (commandBody_mtxFinal _).trans (if_pos legal)
    · rfl
  case isFalse => rfl

/-! ## Exact outcomes -/

theorem exec_ok {i : Instr} {s u : State} (body : commandBody i s = .ok u) : exec i s = .next u.complete := by
  rw [exec_eq_finish, body, finish_ok]

theorem exec_error {i : Instr} {s : State} {e : CmdErr} (body : commandBody i s = .error e) :
    exec i s = .next (s.raiseErr e) := by
  rw [exec_eq_finish, body, finish_error]

/-- Settles O9: the body of `NOP` is empty. -/
theorem nopOnlyCompletes : Obligations.NopOnlyCompletes := fun _ => rfl

theorem shifted_eq (S : Poly) (shift : Nat) : shifted S shift = if S = [] then [] else S ++ List.replicate shift 0 := by
  simp only [shifted, List.length_eq_zero_iff]

/-- Settles O13: the three answers of `pSetNumBody_eq`. -/
theorem pSetNumLoadsTheShiftedEntries : Obligations.PSetNumLoadsTheShiftedEntries := by
  intro d shift s S P
  have loaded : shifted (normalize (s.stream .data)) shift = P := by rw [shifted_eq, ← streamOf_eq]; rfl
  have body := commandBody_pSetNum d shift s
  rw [loaded] at body
  refine ⟨fun range short => ?_, fun range long => ?_, fun range => ?_⟩
  · exact exec_ok (body.trans ((if_pos range).trans (if_pos short)))
  · exact exec_error (body.trans ((if_pos range).trans (if_neg (Nat.not_le.mpr long))))
  · exact exec_error (body.trans (if_neg range))

/-- Settles O19: the range check comes first in both bodies. -/
theorem rsStreamsFailOutOfRange : Obligations.RsStreamsFailOutOfRange := fun src ec s range =>
  ⟨exec_error ((commandBody_rsEnc src ec s).trans (if_neg range)), exec_error ((commandBody_rsSyn src ec s).trans (if_neg range))⟩

/-- Settles O22: the version check comes first in all five bodies. -/
theorem illegalVersionFails : Obligations.IllegalVersionFails := by
  intro s i illegal command
  rcases command with rfl | rfl | ⟨m, rfl⟩ | rfl | rfl
  · exact exec_error ((commandBody_blkCfg s).trans (if_neg illegal))
  · exact exec_error ((commandBody_interleave s).trans (if_neg illegal))
  · exact exec_error ((commandBody_mtxBuild m s).trans (if_neg illegal))
  · exact exec_error ((commandBody_mtxFinal s).trans (if_neg illegal))
  · exact exec_error ((commandBody_run s).trans (if_neg illegal))

/-- Settles O23: the count check comes second in both bodies. -/
theorem wrongDataCountFails : Obligations.WrongDataCountFails := by
  intro s i legal wrong command
  rcases command with rfl | rfl
  · exact exec_error ((commandBody_interleave s).trans ((if_pos legal).trans (if_neg wrong)))
  · exact exec_error ((commandBody_run s).trans ((if_pos legal).trans (if_neg wrong)))

/-- Settles O25: the body past its check, completed. -/
theorem mtxBuildReplacesTheMatrix : Obligations.MtxBuildReplacesTheMatrix := fun mask s legal =>
  exec_ok ((commandBody_mtxBuild mask s).trans (if_pos legal))

/-- Settles O35: with `AUTO` 0 the body past its check only builds with `PAT`. -/
theorem mtxFinalWithFixedMask : Obligations.MtxFinalWithFixedMask := by
  intro s legal fixed
  have final : s.final (configTable s) = s.finalWith (configTable s) s.cfgMask.pat.toNat := by simp [State.final, fixed]
  rw [exec_ok ((commandBody_mtxFinal s).trans (if_pos legal)), final, State.finalWith, ← matrixOf_eq]
  rfl

/-- What `MTX_FINAL` writes, whichever mask it takes. -/
theorem final_eq (s : State) (P : BlockParams) :
    ∃ mask pen ints darks, s.final P =
      ((((s.writeMtx (s.builtMtx P mask)).writeSelMask (wordOf mask)).writeBlk P.regs).writeCands ints darks).writePen
        pen := by
  unfold State.final
  split
  · exact ⟨_, _, _, _, rfl⟩
  · exact ⟨s.cfgMask.pat.toNat, s.pen, s.candInt, s.candDark, rfl⟩

theorem prefixOf_complete (s : State) (src : Src) (n : Nat) : s.complete.prefixOf src n = s.prefixOf src n := rfl

theorem builtMtx_complete (s : State) (P : BlockParams) (p : Nat) : s.complete.builtMtx P p = s.builtMtx P p := rfl

theorem candidateScores_complete (s : State) (n : Nat) :
    candidateScores Config.policy s.complete.version s.complete.level (s.complete.prefixOf .cw n) =
      candidateScores Config.policy s.version s.level (s.prefixOf .cw n) := rfl

/-- `MTX_FINAL` does not look at the status of a completed `INTERLEAVE`, nor keep more of it than `RUN` does. -/
theorem final_complete (s : State) (P : BlockParams) : (s.complete.final P).complete = (s.final P).complete := by
  by_cases auto : s.cfgMask.auto = true
  · simp only [State.final, auto, if_true, complete_cfgMask, State.finalAuto, State.finalWith, builtMtx_complete,
      candidateScores_complete]
    rfl
  · simp only [State.final, auto, complete_cfgMask, State.finalWith, builtMtx_complete]
    rfl

/-- Settles O37: `RUN` and the two commands reach the same bodies, the configuration being what it was. -/
theorem runIsInterleaveThenFinal : Obligations.RunIsInterleaveThenFinal := by
  intro s legal count
  refine ⟨_, _, exec_ok ((commandBody_interleave s).trans ((if_pos legal).trans (if_pos count))),
    exec_ok ((commandBody_mtxFinal _).trans (if_pos legal)), ?_, ?_⟩
  · rw [exec_ok ((commandBody_run s).trans ((if_pos legal).trans (if_pos count)))]
    exact congrArg _ (final_complete _ _).symm
  · generalize hu : (s.writeCwRun (s.interleavedData (configTable s))).writeBlk (configTable s).regs = u
    have status : u.status = s.status := by rw [← hu]; rfl
    obtain ⟨mask, pen, ints, darks, final⟩ := final_eq u.complete (configTable u.complete)
    rw [final]
    exact ⟨rfl, rfl, by simp [status]⟩

/-! ## Rules over all commands -/

/-- A body keeps the status, `ERRINFO`, the operands, the configuration, `DATA` and the model's own fields. -/
structure Keeps (s u : State) : Prop where
  ctrl : u.ctrl = s.ctrl
  status : u.status = s.status
  cmd : u.cmd = s.cmd
  errInfo : u.errInfo = s.errInfo
  arg0 : u.arg0 = s.arg0
  arg1 : u.arg1 = s.arg1
  cfgVersion : u.cfgVersion = s.cfgVersion
  cfgEcc : u.cfgEcc = s.cfgEcc
  cfgMask : u.cfgMask = s.cfgMask
  cfgQz : u.cfgQz = s.cfgQz
  dlen : u.dlen = s.dlen
  data : u.data = s.data
  agenda : u.agenda = s.agenda
  readData : u.readData = s.readData
  powerOns : u.powerOns = s.powerOns
  abandons : u.abandons = s.abandons

/-- What a command whose checks pass leaves: each writes its results and nothing else. -/
def Effect (s u : State) : Instr → Prop
  | .nop => u = s
  | .gfMul a b => u = s.writeResult (zext32 (gfmul a b))
  | .gfExp a => u = s.writeResult (zext32 (expAt a.toNat))
  | .gfLog a => u = s.writeResult (wordOf (logAt a))
  | .pSetNum d shift =>
    (shifted (normalize (s.stream .data)) shift).length ≤ 256 ∧
      u = s.writePoly d (shifted (normalize (s.stream .data)) shift)
  | .pMul d a b =>
    productLen (s.readPoly a) (s.readPoly b) ≤ 256 ∧ u = s.writePoly d (polymul (s.readPoly a) (s.readPoly b))
  | .pMod d a b => s.readPoly b ≠ [] ∧ u = s.writePoly d (polymod (s.readPoly a) (s.readPoly b))
  | .rsGen d ec => u = s.writePoly d (gen ec)
  | .rsEnc src ec => u = s.writeEco (ecwords (s.stream src) ec)
  | .rsSyn src ec => ∃ v, u = (s.writeSyn (syndromes (s.stream src) ec)).writeResult v
  | .blkCfg => u = s.writeBlk (configTable s).regs
  | .interleave =>
    LegalVersion s ∧ s.dlen.toNat = (configTable s).tdata ∧
      u = (s.writeCwRun (s.interleavedData (configTable s))).writeBlk (configTable s).regs
  | .mtxBuild mask => LegalVersion s ∧ u = (s.writeMtx (matrixOf s mask)).writeBlk (configTable s).regs
  | .maskScore => ∃ pen, u = s.writePen pen
  | .mtxFinal => LegalVersion s ∧ u = s.final (configTable s)
  | .run =>
    LegalVersion s ∧ s.dlen.toNat = (configTable s).tdata ∧
      u = ((s.writeCwRun (s.interleavedData (configTable s))).writeBlk (configTable s).regs).final (configTable s)

theorem commandBody_pMod (d a b : PReg) (s : State) :
    commandBody (.pMod d a b) s =
      if s.readPoly b = [] then .error { code := .divZero, info := 0 }
      else .ok (s.writePoly d (polymod (s.readPoly a) (s.readPoly b))) := by
  simp only [commandBody, pModBody, State.plen, List.length_eq_zero_iff]

theorem commandBody_gfLog (a : Byte) (s : State) :
    commandBody (.gfLog a) s =
      if a = 0 then .error { code := .logZero, info := 0 } else .ok (s.writeResult (wordOf (logAt a))) := rfl

theorem commandBody_maskScore (s : State) :
    commandBody .maskScore s =
      if s.mtx.valid then .ok (s.writePen (score Config.policy s.mtx.cells.colours s.mtx.n.toNat).regs)
      else .error { code := .noMatrix, info := 0 } := rfl

/-- A body gives the command's effect, or an error that is not one of decoding (60_exceptions.md R325). -/
theorem commandBody_cases (i : Instr) (s : State) :
    (∃ u, commandBody i s = .ok u ∧ Effect s u i) ∨
      ∃ e, commandBody i s = .error e ∧ e.code ≠ .illegalOpc ∧ e.code ≠ .reserved := by
  cases i with
  | nop | gfMul a b | gfExp a | rsGen d ec => exact .inl ⟨_, rfl, rfl⟩
  | gfLog a =>
    rw [commandBody_gfLog]; split
    · exact .inr ⟨_, rfl, nofun, nofun⟩
    · exact .inl ⟨_, rfl, rfl⟩
  | pSetNum d shift =>
    rw [commandBody_pSetNum]; split
    · split
      · exact .inl ⟨_, rfl, ‹_›, rfl⟩
      · exact .inr ⟨_, rfl, nofun, nofun⟩
    · exact .inr ⟨_, rfl, nofun, nofun⟩
  | pMul d a b =>
    rw [commandBody_pMul]; split
    · exact .inl ⟨_, rfl, ‹_›, rfl⟩
    · exact .inr ⟨_, rfl, nofun, nofun⟩
  | pMod d a b =>
    rw [commandBody_pMod]; split
    · exact .inr ⟨_, rfl, nofun, nofun⟩
    · exact .inl ⟨_, rfl, ‹_›, rfl⟩
  | rsEnc src ec =>
    rw [commandBody_rsEnc]; split
    · exact .inl ⟨_, rfl, rfl⟩
    · exact .inr ⟨_, rfl, nofun, nofun⟩
  | rsSyn src ec =>
    rw [commandBody_rsSyn]; split
    · exact .inl ⟨_, rfl, _, rfl⟩
    · exact .inr ⟨_, rfl, nofun, nofun⟩
  | blkCfg =>
    rw [commandBody_blkCfg]; split
    · exact .inl ⟨_, rfl, rfl⟩
    · exact .inr ⟨_, rfl, nofun, nofun⟩
  | interleave =>
    rw [commandBody_interleave]; split
    · split
      · exact .inl ⟨_, rfl, ‹_›, ‹_›, rfl⟩
      · exact .inr ⟨_, rfl, nofun, nofun⟩
    · exact .inr ⟨_, rfl, nofun, nofun⟩
  | mtxBuild mask =>
    rw [commandBody_mtxBuild]; split
    · exact .inl ⟨_, rfl, ‹_›, rfl⟩
    · exact .inr ⟨_, rfl, nofun, nofun⟩
  | maskScore =>
    rw [commandBody_maskScore]; split
    · exact .inl ⟨_, rfl, _, rfl⟩
    · exact .inr ⟨_, rfl, nofun, nofun⟩
  | mtxFinal =>
    rw [commandBody_mtxFinal]; split
    · exact .inl ⟨_, rfl, ‹_›, rfl⟩
    · exact .inr ⟨_, rfl, nofun, nofun⟩
  | run =>
    rw [commandBody_run]; split
    · split
      · exact .inl ⟨_, rfl, ‹_›, ‹_›, rfl⟩
      · exact .inr ⟨_, rfl, nofun, nofun⟩
    · exact .inr ⟨_, rfl, nofun, nofun⟩

/-- What one command can answer: its effect, completed, or an error completion. -/
theorem exec_cases {i : Instr} {s t : State} (h : exec i s = .next t) :
    (∃ u, Effect s u i ∧ t = u.complete) ∨
      ∃ e : CmdErr, e.code ≠ .illegalOpc ∧ e.code ≠ .reserved ∧ t = s.raiseErr e := by
  rw [exec_eq_finish] at h
  rcases commandBody_cases i s with ⟨u, body, effect⟩ | ⟨e, body, notIllegal, notReserved⟩
  · rw [body, finish_ok] at h
    exact .inl ⟨u, effect, by simpa using h.symm⟩
  · rw [body, finish_error] at h
    exact .inr ⟨e, notIllegal, notReserved, by simpa using h.symm⟩

theorem final_keeps (s : State) (P : BlockParams) : Keeps s (s.final P) := by
  obtain ⟨mask, pen, ints, darks, final⟩ := final_eq s P
  rw [final]
  constructor <;> simp

theorem Keeps.trans {s u w : State} (h : Keeps s u) (k : Keeps u w) : Keeps s w := by
  constructor <;> simp only [h.1, h.2, h.3, h.4, h.5, h.6, h.7, h.8, h.9, h.10, h.11, h.12, h.13, h.14, h.15, h.16,
    k.1, k.2, k.3, k.4, k.5, k.6, k.7, k.8, k.9, k.10, k.11, k.12, k.13, k.14, k.15, k.16]

theorem interleave_keeps (s : State) (l : List Byte) (b : Blk) : Keeps s ((s.writeCwRun l).writeBlk b) := by
  constructor <;> simp

theorem Effect.keeps {i : Instr} {s u : State} (h : Effect s u i) : Keeps s u := by
  cases i <;> simp only [Effect] at h
  case mtxFinal => rw [h.2]; exact final_keeps _ _
  case interleave => rw [h.2.2]; exact interleave_keeps _ _ _
  case run => rw [h.2.2]; exact (interleave_keeps _ _ _).trans (final_keeps _ _)
  case pSetNum | pMul | pMod | mtxBuild => rw [h.2]; constructor <;> simp
  case rsSyn | maskScore => obtain ⟨_, rfl⟩ := h; constructor <;> simp
  all_goals rw [h]; constructor <;> simp

theorem ErrCode.code_ge_three {c : ErrCode} (notIllegal : c ≠ .illegalOpc) (notReserved : c ≠ .reserved) :
    3 ≤ c.code.toNat := by
  cases c <;> first | contradiction | decide

/-- Settles O38: a command ends in its effect, which keeps status and `ERRINFO`, completed, or in an error completion. -/
theorem commandsCompleteOrFailPrecisely : Obligations.CommandsCompleteOrFailPrecisely := by
  intro i s t h
  rcases exec_cases h with ⟨u, effect, rfl⟩ | ⟨e, notIllegal, notReserved, rfl⟩
  · have kept := effect.keeps
    exact .inl ⟨by simp [kept.status], by simp [kept.errInfo]⟩
  · exact .inr ⟨_, _, ErrCode.code_ge_three notIllegal notReserved, e.code.code_range.2, rfl⟩

/-- A polynomial register other than the destination is kept. -/
theorem eq_of_readPoly_writePoly_ne {s : State} {d k : PReg} {P : Poly}
    (h : (s.writePoly d P).readPoly k ≠ s.readPoly k) : k = d := by
  by_contra other
  exact h (readPoly_writePoly_other s P other)

@[simp] theorem readPoly_complete (s : State) (k : PReg) : s.complete.readPoly k = s.readPoly k := rfl

/-- The results an effect does not write: the clauses of `CommandsWriteOnlyTheirTargets` past the first. -/
def WritesOnlyTargets (i : Instr) (s t : State) : Prop :=
  (t.cw ≠ s.cw → i = .interleave ∨ i = .run) ∧
  (t.result ≠ s.result → (∃ a b, i = .gfMul a b) ∨ (∃ a, i = .gfExp a) ∨ (∃ a, i = .gfLog a) ∨ ∃ m ec, i = .rsSyn m ec) ∧
  (t.eco ≠ s.eco → ∃ m ec, i = .rsEnc m ec) ∧
  (t.syn ≠ s.syn → ∃ m ec, i = .rsSyn m ec) ∧
  (∀ k : PReg, t.readPoly k ≠ s.readPoly k →
    (∃ n, i = .pSetNum k n) ∨ (∃ a b, i = .pMul k a b) ∨ (∃ a b, i = .pMod k a b) ∨ ∃ n, i = .rsGen k n) ∧
  (t.blk ≠ s.blk → i = .blkCfg ∨ i = .interleave ∨ (∃ m, i = .mtxBuild m) ∨ i = .mtxFinal ∨ i = .run) ∧
  (t.mtx ≠ s.mtx → (∃ m, i = .mtxBuild m) ∨ i = .mtxFinal ∨ i = .run) ∧
  (t.pen ≠ s.pen → i = .maskScore ∨ i = .mtxFinal ∨ i = .run) ∧
  (t.selMask ≠ s.selMask ∨ t.candInt ≠ s.candInt ∨ t.candDark ≠ s.candDark → i = .mtxFinal ∨ i = .run)

theorem Effect.writesOnlyTargets {i : Instr} {s u : State} (h : Effect s u i) : WritesOnlyTargets i s u := by
  unfold WritesOnlyTargets
  cases i <;> simp only [Effect] at h
  case pSetNum | pMul | pMod =>
    obtain ⟨-, rfl⟩ := h
    refine ⟨?_, ?_, ?_, ?_, fun k changed => ?_, ?_, ?_, ?_, ?_⟩
    case refine_5 => simp [eq_of_readPoly_writePoly_ne changed]
    all_goals simp
  case rsGen =>
    subst h
    refine ⟨?_, ?_, ?_, ?_, fun k changed => ?_, ?_, ?_, ?_, ?_⟩
    case refine_5 => simp [eq_of_readPoly_writePoly_ne changed]
    all_goals simp
  case mtxFinal =>
    obtain ⟨mask, pen, ints, darks, final⟩ := final_eq s (configTable s)
    rw [h.2, final]
    simp [State.readPoly]
  case run =>
    obtain ⟨mask, pen, ints, darks, final⟩ := final_eq
      ((s.writeCwRun (s.interleavedData (configTable s))).writeBlk (configTable s).regs) (configTable s)
    rw [h.2.2, final]
    simp [State.readPoly]
  case mtxBuild | interleave => simp [h, State.readPoly]
  case rsSyn | maskScore => obtain ⟨_, rfl⟩ := h; simp [State.readPoly]
  all_goals simp [h, State.readPoly]

/-- Settles O39: the first clause is what every body keeps; the others hold of each effect, and of an error, which keeps all. -/
theorem commandsWriteOnlyTheirTargets : Obligations.CommandsWriteOnlyTheirTargets := by
  intro i s t h
  rcases exec_cases h with ⟨u, effect, rfl⟩ | ⟨e, -, -, rfl⟩
  · obtain ⟨h1, -, h3, -, h5, h6, h7, h8, h9, h10, h11, h12, h13, h14, h15, h16⟩ := effect.keeps
    exact ⟨⟨h1, h3, h5, h6, h7, h8, h9, h10, h11, h12, h13, h14, h15, h16⟩, effect.writesOnlyTargets⟩
  · simp [State.readPoly]

end Sys2Proof.Machine

end

section
/-! One step: the moves of the agenda, the completion of a command, and what a property needs so that every step keeps it. -/

namespace Sys2Proof.Machine

open Sys2Proof.Spec

/-! ## The moves -/

/-- Settles O6: with an empty agenda, or its own turn first, the engine completes the command in flight. -/
theorem engineTurnRunsTheDecodedCommand : Obligations.EngineTurnRunsTheDecodedCommand := by
  intro s i busy decoded
  refine ⟨fun none => ?_, fun rest first => ?_⟩
  · exact (step_nil none).trans (engineTurn_command busy decoded)
  · exact (step_cons first).trans (engineTurn_command (s := { s with agenda := rest }) busy decoded)

/-- Settles O7: each move is one event, and an idle engine's turn none. -/
theorem otherMovesAreOneEvent : Obligations.OtherMovesAreOneEvent := by
  intro s rest
  refine ⟨fun a first => step_cons first, fun a v first => step_cons first, step_cons, fun first idle => ?_,
    fun none idle => ?_⟩
  · exact (step_cons first).trans (engineTurn_idle (s := { s with agenda := rest }) idle)
  · exact (step_nil none).trans (engineTurn_idle idle)

/-- The engine's turn with a command in flight ends it. -/
theorem engineTurn_completes {s : State} (busy : s.status.busy = true) :
    ∃ t, engineTurn s = .next t ∧ t.status.busy = false ∧ (t.status.done = true ∨ t.status.err = true) := by
  cases decoded : decode s.cmd with
  | error e => exact ⟨_, engineTurn_noCommand busy decoded, rfl, .inr rfl⟩
  | ok i =>
    obtain ⟨t, answer⟩ := exec_answers i s
    refine ⟨t, (engineTurn_command busy decoded).trans answer, ?_⟩
    rcases exec_cases answer with ⟨u, -, rfl⟩ | ⟨e, -, -, rfl⟩
    · exact ⟨rfl, .inl rfl⟩
    · exact ⟨rfl, .inr rfl⟩

theorem engineTurn_answers (s : State) : ∃ t, engineTurn s = .next t := by
  cases busy : s.status.busy with
  | false => exact ⟨s, engineTurn_idle busy⟩
  | true =>
    obtain ⟨t, answer, -⟩ := engineTurn_completes busy
    exact ⟨t, answer⟩

/-- Settles O8: a host move and a reset answer a state by definition; the engine's turn does by the cases of its command. -/
theorem acceptedCommandCompletes : Obligations.AcceptedCommandCompletes := by
  intro s
  refine ⟨?_, fun none busy => ?_⟩
  · unfold State.StepsSafely
    cases agenda : s.agenda with
    | nil => rw [step_nil agenda]; exact engineTurn_answers s
    | cons m rest =>
      rw [step_cons agenda]
      cases m with
      | busRead a => exact ⟨_, rfl⟩
      | busWrite a v => exact ⟨_, rfl⟩
      | engine => exact engineTurn_answers _
      | powerOn => exact ⟨_, rfl⟩
  · rw [step_nil none]
    exact engineTurn_completes busy

/-! ## What every step keeps -/

/-- A property of every reachable state: it does not see the model's own `agenda`, and each kind of step keeps it. -/
theorem keeps_of_moves {p : State → Prop} (agenda : ∀ s rest, p s → p { s with agenda := rest })
    (read : ∀ s a, p s → p (s.busRead a)) (write : ∀ s a v, p s → p (s.busWrite a v))
    (reset : ∀ s, p s → p s.powerOnReset)
    (effect : ∀ s i u, p s → s.status.busy = true → i.WellFormed → Effect s u i → p u.complete)
    (fail : ∀ s e, p s → s.status.busy = true → p (s.raiseErr e)) {s t : State} (holds : p s) (h : step s = .next t) :
    p t := by
  obtain ⟨u, origin, move⟩ := step_cases h
  have start : p u := by
    rcases origin with rfl | ⟨rest, rfl⟩
    · exact holds
    · exact agenda s rest holds
  rcases move with ⟨a, rfl⟩ | ⟨a, v, rfl⟩ | rfl | ⟨-, rfl⟩ | ⟨i, busy, decoded, answer⟩ | ⟨e, busy, -, rfl⟩
  · exact read u a start
  · exact write u a v start
  · exact reset u start
  · exact start
  · rcases exec_cases answer with ⟨w, does, rfl⟩ | ⟨e, -, -, rfl⟩
    · exact effect u i w start busy (decode_wellFormed decoded) does
    · exact fail u e start busy
  · exact fail u _ start busy

/-- A property of fields that no access error and no read changes. -/
theorem keeps_busRead {p : State → Prop} (readData : ∀ s v, p s → p { s with readData := v })
    (accessError : ∀ s, p s → p s.accessError) (s : State) (a : BusAddr) (holds : p s) : p (s.busRead a) := by
  rcases busRead_cases s a with ⟨v, -, answer⟩ | ⟨-, answer⟩
  · rw [answer]; exact readData s v holds
  · rw [answer]; exact readData _ 0 (accessError s holds)

/-- The configuration and operand registers are all that a plain register store changes. -/
theorem storeReg_eq_some {s t : State} {v : Word} {r : Reg} (h : s.storeReg v r = some t) :
    ∃ arg0 arg1 cfgVersion cfgEcc cfgMask cfgQz dlen,
      t = { s with arg0, arg1, cfgVersion, cfgEcc, cfgMask, cfgQz, dlen } := by
  cases r <;> simp only [State.storeReg, reduceCtorEq, Option.some.injEq] at h
  all_goals exact ⟨_, _, _, _, _, _, _, h.symm⟩

/-- The entry of `DATA` or `CW` that a location selects; 0 where it selects none. -/
def Location.memoryEntry : Location → Nat
  | .window (.data i) => i
  | .window (.cw i) => i
  | _ => 0

theorem memoryEntry_locateAligned_lt (n : Nat) : (locateAligned n).memoryEntry < 4096 := by
  have none : 0 < 4096 := by decide
  have range : n < 0x400 ∨ (0x400 ≤ n ∧ n < 0x800) ∨ (0x800 ≤ n ∧ n < 0xC00) ∨ (0x1000 ≤ n ∧ n < 0x2000) ∨
      (0x2000 ≤ n ∧ n < 0x2400) ∨ (0x2400 ≤ n ∧ n < 0x2800) ∨ (0x4000 ≤ n ∧ n < 0x8000) ∨ (0x8000 ≤ n ∧ n < 0xC000) ∨
      (0x40000 ≤ n ∧ n < 0x80000) ∨ 0x100000 ≤ n ∨ Unmapped n := by
    unfold Unmapped; omega
  rcases range with small | ⟨lo, hi⟩ | ⟨lo, hi⟩ | ⟨lo, hi⟩ | ⟨lo, hi⟩ | ⟨lo, hi⟩ | ⟨lo, hi⟩ | ⟨lo, hi⟩ | ⟨lo, hi⟩ | lo | out
  · rw [locateAligned, if_pos small]
    cases regMap.lookup n <;> exact none
  · rw [locateAligned_exp lo hi]; exact none
  · rw [locateAligned_log lo hi]; exact none
  · rw [locateAligned_poly lo hi]; exact none
  · rw [locateAligned_eco lo hi]; exact none
  · rw [locateAligned_syn lo hi]; exact none
  · rw [locateAligned_data lo hi, Location.memoryEntry]; omega
  · rw [locateAligned_cw lo hi, Location.memoryEntry]; omega
  · rw [locateAligned_raw lo hi]; exact none
  · rw [locateAligned_out lo]; exact none
  · rw [locateAligned_of_unmapped out]; exact none

theorem memoryEntry_locate_lt (a : BusAddr) : (locate a).memoryEntry < 4096 := by
  rw [locate]
  split
  · simp only [Location.memoryEntry]; decide
  · exact memoryEntry_locateAligned_lt _

section
variable {p : State → Prop} (accessError : ∀ s, p s → p s.accessError) (softReset : ∀ s, p s → p s.softReset)
  (ctrl : ∀ s c, p s → p { s with ctrl := c }) (status : ∀ s v, p s → p (s.writeStatus v))
  (accept : ∀ s v, p s → s.status.busy = false → s.status.err = false → p (s.accept v)) (ignore : ∀ s, p s → p s.ignoreCmd)
  (config : ∀ s arg0 arg1 cfgVersion cfgEcc cfgMask cfgQz dlen, p s →
    p { s with arg0, arg1, cfgVersion, cfgEcc, cfgMask, cfgQz, dlen })
  (data : ∀ s i b, i < 4096 → p s → p { s with data := s.data.write i b })
  (cw : ∀ s i b, i < 4096 → p s → p { s with cw := s.cw.write i b })
include accessError softReset ctrl status accept ignore config

theorem keeps_writeReg (s : State) (v : Word) (r : Reg) (holds : p s) : p (s.writeReg v r) := by
  unfold State.writeReg
  split_ifs
  · unfold State.writeCtrl
    split
    · exact softReset s holds
    · exact ctrl s _ holds
  · exact status s v holds
  · unfold State.writeCmd
    split
    case isTrue => exact ignore s holds
    case isFalse ready => simp only [not_or, Bool.not_eq_true] at ready; exact accept s v holds ready.1 ready.2
  · exact accessError s holds
  · cases stored : s.storeReg v r with
    | none => exact accessError s holds
    | some t =>
      obtain ⟨arg0, arg1, cfgVersion, cfgEcc, cfgMask, cfgQz, dlen, rfl⟩ := storeReg_eq_some stored
      exact config s arg0 arg1 cfgVersion cfgEcc cfgMask cfgQz dlen holds

include data cw

/-- All a bus write can do, as what a property must survive. -/
theorem keeps_busWrite (s : State) (a : BusAddr) (v : Word) (holds : p s) : p (s.busWrite a v) := by
  cases place : locate a with
  | misaligned => simpa [State.busWrite, place] using accessError s holds
  | unmapped => simpa [State.busWrite, place] using accessError s holds
  | reg r =>
    rw [busWrite_of_locate_reg s v place]
    exact keeps_writeReg accessError softReset ctrl status accept ignore config s v r holds
  | window w =>
    have bound := memoryEntry_locate_lt a
    rw [place] at bound
    rw [busWrite_of_locate_window s v place]
    split
    · exact accessError s holds
    · cases w with
      | data i => exact data s i _ (bound) holds
      | cw i => exact cw s i _ (bound) holds
      | exp | log | poly | eco | syn | raw | out => exact accessError s holds

end

/-- A soft reset keeps `DATA`, resets the registers, and writes to `CW` at most the entries of the writer it abandons. -/
theorem softReset_cases (s : State) :
    s.softReset = s.resetRegisters ∨
      s.softReset = { s.resetRegisters with cw := s.cw.writeRun 0 s.abandonedCw, abandons := s.abandons + 1 } := by
  unfold State.softReset
  split
  · exact .inl rfl
  · exact .inr rfl

theorem writeStatus_eq (s : State) (v : Word) :
    s.writeStatus v =
      { s with
        status :=
          { busy := s.status.busy
            done := s.status.done && !v.getLsbD 1
            err := s.status.err && !v.getLsbD 2
            accErr := s.status.accErr && !v.getLsbD 3
            cmdIgn := s.status.cmdIgn && !v.getLsbD 4
            errCode := if v.getLsbD 2 then 0 else s.status.errCode }
        errInfo := if v.getLsbD 2 then 0 else s.errInfo } := by
  rw [State.writeStatus, clearDone_eq, clearErr_eq, clearAccErr_eq, clearCmdIgn_eq]

theorem reset_statusOk : State.reset.StatusOk := by decide

theorem softReset_status (s : State) : s.softReset.status = State.reset.status ∧ s.softReset.errInfo = State.reset.errInfo := by
  rcases softReset_cases s with reset | reset <;> rw [reset] <;> exact ⟨rfl, rfl⟩

/-- `STATUS` and `ERRINFO` decide whether the status is legal. -/
theorem statusOk_congr {s t : State} (h : s.StatusOk) (status : t.status = s.status) (errInfo : t.errInfo = s.errInfo) :
    t.StatusOk := by
  unfold State.StatusOk
  rw [status, errInfo]
  exact h

theorem writeStatus_statusOk {s : State} (v : Word) (h : s.StatusOk) : (s.writeStatus v).StatusOk := by
  obtain ⟨flight, exclusive, clean, code⟩ := h
  rw [writeStatus_eq]
  cases v.getLsbD 2 <;> simp_all [State.StatusOk]

/-- Settles O58: a completion ends the flight with `DONE` or `ERR`, and `ERR` blocks `CMD`, so a command in flight starts clean. -/
theorem stepKeepsStatusLegal : Obligations.StepKeepsStatusLegal := by
  intro s t
  refine keeps_of_moves (p := State.StatusOk) (fun _ _ h => h) (keeps_busRead (fun _ _ h => h) fun _ h => h)
    (keeps_busWrite (fun _ h => h) (fun s _ => ?_) (fun _ _ h => h) (fun _ v => writeStatus_statusOk v) ?_ (fun _ h => h)
      (fun _ _ _ _ _ _ _ _ h => h) (fun _ _ _ _ h => h) (fun _ _ _ _ h => h)) (fun _ _ => reset_statusOk) ?_ ?_
  · exact statusOk_congr reset_statusOk (softReset_status s).1 (softReset_status s).2
  · intro s v ⟨_, _, clean, _⟩ _ noErr
    simp [State.StatusOk, noErr, clean noErr]
  · intro s i u ⟨flight, _, clean, _⟩ busy _ effect
    have noErr := (flight busy).2
    simp [State.StatusOk, effect.keeps.status, effect.keeps.errInfo, noErr, clean noErr]
  · intro s e ⟨flight, _, _, _⟩ busy
    simp [State.StatusOk, flight busy, e.code.code_range]

/-- Settles O60: the reset state is evaluated. -/
theorem resetMeetsTheInvariant : Obligations.ResetMeetsTheInvariant := by
  unfold Obligations.ResetMeetsTheInvariant
  decide +kernel

end Sys2Proof.Machine

end

section
/-! The field by its tables and the field by shift and reduction are one (41_gf.md R140 to R145): every nonzero element is a power
of alpha, and multiplying by a power of alpha is shifting. -/

namespace Sys2Proof.Machine

open Sys2Proof.Spec

/-! ## Shifting is linear -/

theorem timesZ_xor (a b : Byte) : timesZ (a ^^^ b) = timesZ a ^^^ timesZ b := by
  have reduced : ∀ p q : Bool, (if (p ^^ q) = true then 0x1D#8 else 0#8) =
      (if p = true then 0x1D#8 else 0#8) ^^^ (if q = true then 0x1D#8 else 0#8) := by decide
  simp only [timesZ, BitVec.msb_xor, BitVec.shiftLeft_xor_distrib, reduced]
  ac_rfl

theorem timesZ_zero : timesZ 0 = 0 := by decide

theorem timesZPow_xor (i : Nat) (a b : Byte) : timesZPow i (a ^^^ b) = timesZPow i a ^^^ timesZPow i b := by
  induction i with
  | zero => rfl
  | succ i ih => rw [timesZPow, ih, timesZ_xor]; rfl

theorem timesZPow_zero (i : Nat) : timesZPow i 0 = 0 := by
  induction i with
  | zero => rfl
  | succ i ih => rw [timesZPow, ih, timesZ_zero]

theorem timesZPow_add (i j : Nat) (a : Byte) : timesZPow (i + j) a = timesZPow i (timesZPow j a) := by
  induction i with
  | zero => rw [Nat.zero_add]; rfl
  | succ i ih => rw [Nat.succ_add, timesZPow, ih]; rfl

theorem xorAll_nil : xorAll [] = 0 := rfl

theorem xorAll_cons (a : Byte) (l : List Byte) : xorAll (a :: l) = a ^^^ xorAll l := by
  have shift : ∀ (l : List Byte) (x y : Byte), l.foldl (fun x y => x ^^^ y) (x ^^^ y) = x ^^^ l.foldl (fun x y => x ^^^ y) y := by
    intro l
    induction l with
    | nil => intro x y; rfl
    | cons b l ih => intro x y; rw [List.foldl_cons, List.foldl_cons, BitVec.xor_assoc, ih]
  rw [xorAll, List.foldl_cons, BitVec.xor_comm, shift]
  rfl

/-- A map that is linear over XOR goes into a sum. -/
theorem map_xorAll {f : Byte → Byte} (zero : f 0 = 0) (add : ∀ a b, f (a ^^^ b) = f a ^^^ f b) (l : List Byte) :
    f (xorAll l) = xorAll (l.map f) := by
  induction l with
  | nil => exact zero
  | cons a l ih => rw [xorAll_cons, add, ih, List.map_cons, xorAll_cons]

/-! ## The field product -/

theorem fieldProduct_one_left (b : Byte) : fieldProduct 1#8 b = b := by
  revert b; decide +kernel

theorem fieldProduct_timesZPow (i : Nat) (a b : Byte) : fieldProduct (timesZPow i a) b = timesZPow i (fieldProduct a b) := by
  rw [fieldProduct, fieldProduct, map_xorAll (timesZPow_zero i) (timesZPow_xor i), List.map_map]
  congr 1
  apply List.map_congr_left
  intro j _
  rw [Function.comp_apply, ← timesZPow_add, Nat.add_comm, timesZPow_add]
  cases b.getLsbD j
  · exact (timesZPow_zero i).symm
  · rfl

/-- The product with a power of alpha is a shift. -/
theorem fieldProduct_alphaPow_left (i : Nat) (b : Byte) : fieldProduct (alphaPow i) b = timesZPow i b := by
  rw [alphaPow, fieldProduct_timesZPow, fieldProduct_one_left]

theorem fieldProduct_alphaPow (i j : Nat) : fieldProduct (alphaPow i) (alphaPow j) = alphaPow (i + j) := by
  rw [fieldProduct_alphaPow_left, alphaPow, alphaPow, timesZPow_add]

theorem xorAll_eq_zero {l : List Byte} (h : ∀ a ∈ l, a = 0) : xorAll l = 0 := by
  induction l with
  | nil => rfl
  | cons a l ih =>
    obtain ⟨rfl, rest⟩ := List.forall_mem_cons.mp h
    rw [xorAll_cons, ih rest]
    rfl

theorem fieldProduct_zero_left (b : Byte) : fieldProduct 0 b = 0 := by
  refine xorAll_eq_zero (List.forall_mem_map.mpr fun i _ => ?_)
  rw [timesZPow_zero]
  exact ite_self 0

theorem fieldProduct_zero_right (a : Byte) : fieldProduct a 0 = 0 :=
  xorAll_eq_zero (List.forall_mem_map.mpr fun i _ => by simp)

/-! ## The tables -/

theorem expAt_eq_alphaPow {i : Nat} (h : i < 256) : expAt i = alphaPow i := by
  have all : ∀ i < 256, expAt i = alphaPow i := by decide +kernel
  exact all i h

/-- alpha has order 255 (41_gf.md R141). -/
theorem alphaPow_255 : alphaPow 255 = 1 := by decide +kernel

theorem alphaPow_mod (i : Nat) : alphaPow (i % 255) = alphaPow i := by
  have period : ∀ k r, alphaPow (255 * k + r) = alphaPow r := by
    intro k r
    induction k with
    | zero => rw [Nat.mul_zero, Nat.zero_add]
    | succ k ih =>
      rw [Nat.mul_succ, Nat.add_right_comm, ← fieldProduct_alphaPow, ih, alphaPow_255, fieldProduct_alphaPow_left r 1]
      rfl
  conv_rhs => rw [← Nat.div_add_mod i 255, period]

theorem expAt_mod (i : Nat) : expAt (i % 255) = alphaPow i := by
  rw [expAt_eq_alphaPow (by omega), alphaPow_mod]

/-- Every nonzero element is the power of alpha that the `LOG` table gives (41_gf.md R142). -/
theorem alphaPow_logAt {a : Byte} (h : a ≠ 0) : logAt a < 255 ∧ alphaPow (logAt a) = a := by
  have all : ∀ a : Byte, a ≠ 0 → logAt a < 255 ∧ expAt (logAt a) = a := by decide +kernel
  obtain ⟨small, power⟩ := all a h
  exact ⟨small, by rw [← expAt_eq_alphaPow (by omega), power]⟩

/-- The tables multiply as R140 does: both factors are powers of alpha, or one is 0. -/
theorem gfmul_eq_fieldProduct (a b : Byte) : gfmul a b = fieldProduct a b := by
  unfold gfmul
  split
  case isTrue zero =>
    rcases zero with rfl | rfl
    · exact (fieldProduct_zero_left b).symm
    · exact (fieldProduct_zero_right a).symm
  case isFalse nonzero =>
    obtain ⟨ha, hb⟩ := not_or.mp nonzero
    rw [expAt_mod, ← fieldProduct_alphaPow, (alphaPow_logAt ha).2, (alphaPow_logAt hb).2]

/-- Settles O10: the body of `GF_MUL` multiplies by the tables. -/
theorem gfMulWritesTheFieldProduct : Obligations.GfMulWritesTheFieldProduct := by
  intro a b s
  rw [← gfmul_eq_fieldProduct]
  exact exec_ok (i := .gfMul a b) rfl

/-- Settles O11: the body of `GF_EXP` reads the `EXP` table. -/
theorem gfExpWritesThePowerOfAlpha : Obligations.GfExpWritesThePowerOfAlpha := by
  intro a s
  rw [← expAt_eq_alphaPow a.isLt]
  exact exec_ok (i := .gfExp a) rfl

/-- Settles O12: the exponent is the entry of the `LOG` table. -/
theorem gfLogWritesTheExponent : Obligations.GfLogWritesTheExponent := by
  intro a s
  refine ⟨fun nonzero => ⟨logAt a, (alphaPow_logAt nonzero).1, (alphaPow_logAt nonzero).2, ?_⟩, fun zero => ?_⟩
  · exact exec_ok ((commandBody_gfLog a s).trans (if_neg nonzero))
  · exact exec_error ((commandBody_gfLog a s).trans (if_pos zero))

theorem alphaPow_ne_zero (i : Nat) : alphaPow i ≠ 0 := by
  have all : ∀ i < 255, alphaPow i ≠ 0 := by decide +kernel
  rw [← alphaPow_mod]
  exact all _ (Nat.mod_lt _ (by decide))

theorem logAt_alphaPow {i : Nat} (h : i < 255) : logAt (alphaPow i) = i := by
  rw [← expAt_eq_alphaPow (by omega), log_of_exp i h]

/-- Settles O50: the addresses are those of the two windows, whose words are table entries. -/
theorem tableWindowsHoldPowersAndLogarithms : Obligations.TableWindowsHoldPowersAndLogarithms := by
  intro s i idle small
  have log (a : Nat) (h : a < 256) : locate (addr (0x800 + 4 * a)) = .window (.log a) := by
    rw [locate_addr_of_aligned (by omega) (by omega), locateAligned_log (by omega) (by omega)]
    congr 2; omega
  refine ⟨?_, ?_, fun below => ?_⟩
  · have exp : locate (addr (0x400 + 4 * i)) = .window (.exp i) := by
      rw [locate_addr_of_aligned (by omega) (by omega), locateAligned_exp (by omega) (by omega)]
      congr 2; omega
    rw [busRead_of_locate_window idle exp, ← expAt_eq_alphaPow small]
    rfl
  · exact busRead_of_locate_window idle (log 0 (by decide))
  · have nonzero : (alphaPow i).toNat ≠ 0 := fun zero => alphaPow_ne_zero i (BitVec.eq_of_toNat_eq zero)
    rw [busRead_of_locate_window idle (log _ (alphaPow i).isLt), State.readWindow, if_neg nonzero, BitVec.ofNat_toNat,
      BitVec.setWidth_eq, logAt_alphaPow below]

end Sys2Proof.Machine

end

section
/-! The registers and windows a host reads and writes (10_state.md R31 to R58, 20_memory.md R86 to R98), the way out of an error
(60_exceptions.md R328), and the two resets (70_reset_and_hazards.md R361, R362). -/

namespace Sys2Proof.Machine

open Sys2Proof.Spec

/-! ## Errors and resets -/

theorem softReset_eq (s : State) :
    s.softReset =
      { State.reset with data := s.data, cw := s.softReset.cw, agenda := s.agenda, readData := s.readData
                         powerOns := s.powerOns, abandons := s.softReset.abandons } := by
  rcases softReset_cases s with reset | reset <;> rw [reset] <;> rfl

/-- Only an `INTERLEAVE` or a `RUN` in flight has `CW` entries to write. -/
theorem softReset_of_no_writer {s : State}
    (h : s.status.busy = false ∨ (decode s.cmd ≠ .ok .interleave ∧ decode s.cmd ≠ .ok .run)) :
    s.softReset = s.resetRegisters := by
  have none : s.pendingCw = [] := by
    unfold State.pendingCw
    split
    · rfl
    · next i decoded =>
      rw [decoded] at h
      cases i <;> simp_all [Instr.writesCw]
  rw [State.softReset, if_pos none]

/-- Settles O54: a soft reset is `softReset_eq`; a power-on reset is evaluated. -/
theorem softResetKeepsOnlyTheMemories : Obligations.SoftResetKeepsOnlyTheMemories := by
  intro s
  refine ⟨fun v srst => ⟨_, rfl, ?_, fun noWriter => ?_⟩, rfl, fun k => ?_, fun i small => ?_, rfl, rfl, rfl, rfl,
    fun i => ⟨rfl, rfl⟩⟩
  · rw [busWrite_ctrl_srst s srst]
    exact softReset_eq s
  · rw [busWrite_ctrl_srst s srst, softReset_of_no_writer noWriter]
    exact ⟨rfl, rfl⟩
  · cases k <;> rfl
  · exact ⟨by simp [State.reset, Vector.getD, small], by simp [State.reset, Vector.getD, small]⟩

/-- Settles O43: an error blocks `CMD`; an acknowledged core that is not `BUSY`, and a reset one, accept the next word. -/
theorem errorBlocksUntilAcknowledged : Obligations.ErrorBlocksUntilAcknowledged := by
  intro s v w x err ack srst
  have status : s.busWrite (addr 0x008) v = s.writeStatus v := busWrite_of_locate_reg s v locate_status
  rw [busWrite_cmd, status, busWrite_ctrl_srst s srst]
  obtain ⟨reset, resetInfo⟩ := softReset_status s
  have acked : (s.writeStatus v).status.err = false := by rw [writeStatus_eq]; simp [ack]
  refine ⟨writeCmd_of_blocked w (.inr err), ⟨acked, ?_, ?_, fun idle => ?_⟩, ?_, ?_, ?_, ?_⟩
  · rw [writeStatus_eq]; simp [ack]
  · rw [writeStatus_eq]; simp [ack]
  · have free : (s.writeStatus v).status.busy = false := by rw [writeStatus_eq]; exact idle
    rw [busWrite_cmd, writeCmd_of_ready w free acked]
    exact ⟨rfl, rfl⟩
  · rw [reset]; rfl
  · rw [reset]; rfl
  · rw [resetInfo]; rfl
  · rw [busWrite_cmd, writeCmd_of_ready w (by rw [reset]; rfl) (by rw [reset]; rfl)]
    exact ⟨rfl, rfl⟩

/-! ## Registers -/

/-- Reading back what a register of `k` low bits stored of a word. -/
theorem setWidth_setWidth_eq_and (v : Word) (k : Nat) :
    (v.setWidth k).setWidth 32 = v &&& (BitVec.allOnes k).setWidth 32 := by
  apply BitVec.eq_of_getLsbD_eq
  intro i hi
  simp [-BitVec.getLsbD_eq_getElem, hi, Bool.and_comm]

/-- The same for a register that holds bit `k` apart from the `k` bits below it. -/
theorem append_eq_setWidth (v : Word) (n k : Nat) :
    0#n ++ bit (v.getLsbD k) ++ v.setWidth k = (v.setWidth (k + 1)).setWidth (n + 1 + k) := by
  apply BitVec.eq_of_getLsbD_eq
  intro i hi
  simp only [BitVec.getLsbD_append, BitVec.getLsbD_setWidth, BitVec.getLsbD_zero, BitVec.getLsbD_ofBool, hi, decide_true,
    Bool.true_and]
  rcases Nat.lt_trichotomy i k with below | rfl | above
  · have : i < k + 1 := by omega
    simp [below, this]
  · simp
  · have h1 : ¬ i < k := by omega
    have h2 : ¬ i < k + 1 := by omega
    have h3 : ¬ i - k < 1 := by omega
    simp [h1, h2, h3]

/-- A plain register takes the word when the core is not `BUSY`, and then reads its own field. -/
theorem writeThenRead {s t : State} {v : Word} {r : Reg} {n : Nat} (idle : s.status.busy = false)
    (mem : (n, r) ∈ regMap) (stored : s.storeReg v r = some t) :
    s.busWrite (addr n) v = t ∧ ((s.busWrite (addr n) v).busRead (addr n)).readData = t.readReg r := by
  have place := locate_addr_of_mem_regMap mem
  have written : s.busWrite (addr n) v = t := by
    rw [busWrite_of_locate_reg s v place, State.writeReg, if_neg, if_neg, if_neg, if_neg, stored, Option.getD_some]
    · simp [idle]
    all_goals rintro rfl; simp [State.storeReg] at stored
  refine ⟨written, ?_⟩
  rw [written, busRead_of_locate_reg t place]

theorem ctrl_readBack (v : Word) : 0#29 ++ bit (v.getLsbD 2) ++ bit (v.getLsbD 1) ++ 0#1 = v &&& 0x6#32 := by
  apply BitVec.eq_of_getLsbD_eq
  intro i hi
  have mask : ∀ i < 32, (0x6#32).getLsbD i = (i == 1 || i == 2) := by decide
  rw [BitVec.getLsbD_and, mask i hi]
  refine BitVec.getLsbD_append.trans ?_
  simp only [BitVec.getLsbD_append]
  rcases i with _ | _ | _ | i <;> simp

/-- Settles O47: a write of the register stores its fields, and the read returns the bits stored. -/
theorem readWriteRegistersKeepTheirFields : Obligations.ReadWriteRegistersKeepTheirFields := by
  intro s v w back
  refine ⟨fun noReset => ?_, fun idle => ⟨?_, ?_, ?_, ?_, ?_, ?_, ?_⟩⟩
  · have written : s.busWrite (addr 0x004) v = { s with ctrl := { ieDone := v.getLsbD 1, ieErr := v.getLsbD 2 } } := by
      rw [busWrite_of_locate_reg s v locate_ctrl, State.writeReg, if_pos rfl, State.writeCtrl, if_neg (by rw [noReset]; decide)]
    refine ⟨by simp only [w, written], ?_⟩
    simp only [back, w, written]
    rw [busRead_of_locate_reg _ locate_ctrl]
    exact ctrl_readBack v
  · obtain ⟨written, read⟩ := writeThenRead (v := v) (r := .arg0) (n := 0x018) idle (by decide) rfl
    exact ⟨by simp only [w, written], read.trans (setWidth_setWidth_eq_and v 12)⟩
  · obtain ⟨written, read⟩ := writeThenRead (v := v) (r := .arg1) (n := 0x01C) idle (by decide) rfl
    exact ⟨by simp only [w, written], read.trans (setWidth_setWidth_eq_and v 13)⟩
  · obtain ⟨written, read⟩ := writeThenRead (v := v) (r := .cfgVersion) (n := 0x020) idle (by decide) rfl
    exact ⟨by simp only [w, written], read.trans (setWidth_setWidth_eq_and v 6)⟩
  · obtain ⟨written, read⟩ := writeThenRead (v := v) (r := .cfgEcc) (n := 0x024) idle (by decide) rfl
    exact ⟨by simp only [w, written], read.trans (setWidth_setWidth_eq_and v 2)⟩
  · obtain ⟨written, read⟩ := writeThenRead (v := v) (r := .cfgMask) (n := 0x028) idle (by decide) rfl
    exact ⟨by simp only [w, written],
      read.trans ((append_eq_setWidth v 28 3).trans (setWidth_setWidth_eq_and v 4))⟩
  · obtain ⟨written, read⟩ := writeThenRead (v := v) (r := .cfgQz) (n := 0x02C) idle (by decide) rfl
    exact ⟨by simp only [w, written],
      read.trans ((append_eq_setWidth v 23 8).trans (setWidth_setWidth_eq_and v 9))⟩
  · obtain ⟨written, read⟩ := writeThenRead (v := v) (r := .dlen) (n := 0x030) idle (by decide) rfl
    exact ⟨by simp only [w, written], read.trans (setWidth_setWidth_eq_and v 13)⟩

/-- The fields beside each other are a sum. -/
theorem append_eq_add (n k : Nat) (b : Bool) (p : BitVec k) :
    (0#n ++ bit b ++ p).setWidth 32 = wordOf (2 ^ k * b.toNat + p.toNat) := by
  apply BitVec.eq_of_toNat_eq
  have small := p.isLt
  have bit : (0#n ++ bit b).toNat = b.toNat := by cases b <;> simp
  rw [BitVec.toNat_setWidth, BitVec.toNat_append, bit, ← Nat.shiftLeft_add_eq_or_of_lt small, Nat.shiftLeft_eq,
    BitVec.toNat_ofNat, Nat.mul_comm]

/-- Each word of `registerWords` is what a register of the map reads. -/
theorem mem_registerWords {s : State} : ∀ q ∈ registerWords s, ∃ r, (q.1, r) ∈ regMap ∧ s.readReg r = q.2 := by
  simp only [registerWords, List.forall_mem_append]
  refine ⟨⟨⟨⟨?_, ?_⟩, ?_⟩, ?_⟩, ?_⟩
  · simp only [controlWords, List.forall_mem_cons, List.not_mem_nil, false_imp_iff, implies_true, and_true]
    refine ⟨⟨.id, by decide, rfl⟩, ⟨.ctrl, by decide, ?_⟩, ⟨.cmd, by decide, rfl⟩, ⟨.errInfo, by decide, rfl⟩,
      ⟨.result, by decide, rfl⟩, ⟨.arg0, by decide, (wordOf_toNat _).symm⟩, ⟨.arg1, by decide, (wordOf_toNat _).symm⟩⟩
    simp only [State.readReg, State.ctrlWord]
    cases s.ctrl.ieDone <;> cases s.ctrl.ieErr <;> decide
  · simp only [configWords, List.forall_mem_cons, List.not_mem_nil, false_imp_iff, implies_true, and_true]
    exact ⟨⟨.cfgVersion, by decide, (wordOf_toNat _).symm⟩, ⟨.cfgEcc, by decide, (wordOf_toNat _).symm⟩,
      ⟨.cfgMask, by decide, (BitVec.setWidth_eq _).symm.trans (append_eq_add 28 3 _ _)⟩,
      ⟨.cfgQz, by decide, (BitVec.setWidth_eq _).symm.trans (append_eq_add 23 8 _ _)⟩,
      ⟨.dlen, by decide, (wordOf_toNat _).symm⟩⟩
  · simp only [blkWords, List.forall_mem_cons, List.not_mem_nil, false_imp_iff, implies_true, and_true]
    exact ⟨⟨.blkB1, by decide, rfl⟩, ⟨.blkD1, by decide, rfl⟩, ⟨.blkB2, by decide, rfl⟩, ⟨.blkD2, by decide, rfl⟩,
      ⟨.blkEc, by decide, rfl⟩, ⟨.blkTdata, by decide, rfl⟩, ⟨.blkTcw, by decide, rfl⟩, ⟨.blkRem, by decide, rfl⟩⟩
  · simp only [mtxWords, List.forall_mem_cons, List.not_mem_nil, false_imp_iff, implies_true, and_true]
    refine ⟨⟨.mtxN, by decide, rfl⟩, ⟨.mtxVersion, by decide, rfl⟩, ⟨.mtxEcc, by decide, rfl⟩, ⟨.mtxMask, by decide, rfl⟩,
      ⟨.outQz, by decide, ?_⟩, ⟨.outSize, by decide, ?_⟩⟩
    · simp only [State.readReg, outQz_eq]; split <;> rfl
    · simp only [State.readReg, outSize_eq]; split <;> rfl
  · simp only [penWords, List.forall_mem_cons, List.not_mem_nil, false_imp_iff, implies_true, and_true]
    exact ⟨⟨.penR1, by decide, rfl⟩, ⟨.penR2, by decide, rfl⟩, ⟨.penR3, by decide, rfl⟩, ⟨.penDark, by decide, rfl⟩,
      ⟨.penR4num, by decide, rfl⟩, ⟨.selMask, by decide, rfl⟩⟩

/-! ## Windows -/

theorem locate_addr_poly (k : PReg) {i : Nat} (h : i < 256) :
    locate (addr (0x1000 + 0x400 * k.index.val + 4 * i)) = .window (.poly k i) := by
  have range := k.index.isLt
  rw [locate_addr_of_aligned (by omega) (by omega), locateAligned_poly (by omega) (by omega)]
  have number : (0x1000 + 0x400 * k.index.val + 4 * i - 0x1000) / 0x400 = k.index.val := by omega
  have entry : (0x1000 + 0x400 * k.index.val + 4 * i - 0x1000) % 0x400 / 4 = i := by omega
  have register : PReg.ofNumber k.index.val = k := by cases k <;> rfl
  rw [number, entry, register]

theorem locate_addr_eco {i : Nat} (h : i < 256) : locate (addr (0x2000 + 4 * i)) = .window (.eco i) := by
  rw [locate_addr_of_aligned (by omega) (by omega), locateAligned_eco (by omega) (by omega)]
  congr 2; omega

theorem locate_addr_syn {i : Nat} (h : i < 256) : locate (addr (0x2400 + 4 * i)) = .window (.syn i) := by
  rw [locate_addr_of_aligned (by omega) (by omega), locateAligned_syn (by omega) (by omega)]
  congr 2; omega

theorem locate_addr_data {i : Nat} (h : i < 4096) : locate (addr (0x4000 + 4 * i)) = .window (.data i) := by
  rw [locate_addr_of_aligned (by omega) (by omega), locateAligned_data (by omega) (by omega)]
  congr 2; omega

theorem locate_addr_cw {i : Nat} (h : i < 4096) : locate (addr (0x8000 + 4 * i)) = .window (.cw i) := by
  rw [locate_addr_of_aligned (by omega) (by omega), locateAligned_cw (by omega) (by omega)]
  congr 2; omega

theorem readData_data_window {t : State} {i : Nat} {b : Byte} (idle : t.status.busy = false) (small : i < 4096)
    (entry : t.readDataEntry i = b) : (t.busRead (addr (0x4000 + 4 * i))).readData = zext32 b := by
  rw [busRead_of_locate_window idle (locate_addr_data small), State.readWindow, entry]

theorem readData_cw_window {t : State} {i : Nat} {b : Byte} (idle : t.status.busy = false) (small : i < 4096)
    (entry : t.readCw i = b) : (t.busRead (addr (0x8000 + 4 * i))).readData = zext32 b := by
  rw [busRead_of_locate_window idle (locate_addr_cw small), State.readWindow, entry]

/-- Settles O49: each offset names the register or window whose word is the field. -/
theorem resultWindowsReadTheirEntries : Obligations.ResultWindowsReadTheirEntries := by
  intro s
  refine ⟨fun q mem => ?_, fun k => ?_, fun p => ⟨?_, ?_⟩, fun k i idle small => ⟨?_, ?_, ?_⟩⟩
  · obtain ⟨r, place, word⟩ := mem_registerWords q mem
    rw [busRead_of_locate_reg s (locate_addr_of_mem_regMap place), word]
  · exact busRead_of_locate_reg (r := .plen k) s (locate_addr_of_mem_regMap (by cases k <;> decide))
  · exact busRead_of_locate_reg (r := .candInt p) s (locate_addr_of_mem_regMap (by revert p; decide))
  · exact busRead_of_locate_reg (r := .candDark p) s (locate_addr_of_mem_regMap (by revert p; decide))
  · rw [busRead_of_locate_window idle (locate_addr_poly k small), State.readWindow]
    split
    case isTrue => rfl
    case isFalse past => rw [List.getD_eq_default _ _ (Nat.le_of_not_lt past)]; rfl
  · exact busRead_of_locate_window idle (locate_addr_eco small)
  · exact busRead_of_locate_window idle (locate_addr_syn small)

/-- Settles O48: the address names one entry; a write changes that entry of its memory and no other. -/
theorem memoryWindowsStoreOneEntry : Obligations.MemoryWindowsStoreOneEntry := by
  intro s i v idle small
  have data := locate_addr_data small
  have cw := locate_addr_cw small
  have writeData : s.busWrite (addr (0x4000 + 4 * i)) v = { s with data := s.data.write i (v.setWidth 8) } := by
    rw [busWrite_of_locate_window s v data, if_neg (by rw [idle]; decide)]; rfl
  have writeCw : s.busWrite (addr (0x8000 + 4 * i)) v = { s with cw := s.cw.write i (v.setWidth 8) } := by
    rw [busWrite_of_locate_window s v cw, if_neg (by rw [idle]; decide)]; rfl
  refine ⟨busRead_of_locate_window idle data, busRead_of_locate_window idle cw, ?_, ?_⟩
  · have entry : ({ s with data := s.data.write i (v.setWidth 8) } : State).readDataEntry i = v.setWidth 8 := by
      simp [State.readDataEntry]
    rw [writeData]
    refine ⟨entry, ?_, fun j other => ?_, rfl⟩
    · exact readData_data_window idle small entry
    · simp only [State.readDataEntry, Memory.read?_write_other _ _ other]
  · have entry : ({ s with cw := s.cw.write i (v.setWidth 8) } : State).readCw i = v.setWidth 8 := by
      simp [State.readCw]
    rw [writeCw]
    refine ⟨entry, ?_, fun j other => ?_, rfl⟩
    · exact readData_cw_window idle small entry
    · simp only [State.readCw, Memory.read?_write_other _ _ other]

end Sys2Proof.Machine

end

section
/-! The polynomials of 41_gf.md §2 as polynomials over the ring of 41_gf.md R140: an element is its class, a coefficient list its
polynomial, and the list operations are the ring's. -/

namespace Sys2Proof.Machine

open Sys2Proof.Spec Polynomial

/-! ## Elements as classes modulo `z^8 + z^4 + z^3 + z^2 + 1` -/

/-- The field polynomial of 41_gf.md R140. -/
noncomputable def fieldPoly : (ZMod 2)[X] := X ^ 8 + X ^ 4 + X ^ 3 + X ^ 2 + 1

/-- The polynomials over GF(2) modulo the field polynomial (41_gf.md R140). -/
abbrev Class : Type := AdjoinRoot fieldPoly

/-- The class of `z`. -/
noncomputable def zClass : Class := AdjoinRoot.root fieldPoly

/-- The class of an element, bit `i` being the coefficient of `z^i` (41_gf.md R140). -/
noncomputable def cls (a : Byte) : Class := ∑ i ∈ Finset.range 8, if a.getLsbD i then zClass ^ i else 0

theorem Class.two_eq_zero : (2 : Class) = 0 := by
  have two : (2 : ZMod 2) = 0 := by decide
  rw [← map_ofNat (AdjoinRoot.of fieldPoly) 2, two, map_zero]

theorem Class.add_self (x : Class) : x + x = 0 := by rw [← two_mul, two_eq_zero, zero_mul]

theorem zClass_pow_eight : zClass ^ 8 = zClass ^ 4 + zClass ^ 3 + zClass ^ 2 + 1 := by
  have root : zClass ^ 8 + zClass ^ 4 + zClass ^ 3 + zClass ^ 2 + 1 = 0 := by
    have root : eval₂ (AdjoinRoot.of fieldPoly) zClass (X ^ 8 + X ^ 4 + X ^ 3 + X ^ 2 + 1) = 0 :=
      AdjoinRoot.eval₂_root fieldPoly
    simpa using root
  linear_combination root - (zClass ^ 4 + zClass ^ 3 + zClass ^ 2 + 1) * Class.two_eq_zero

theorem cls_zero : cls 0 = 0 := by simp [cls]

theorem cls_one : cls 1 = 1 := by simp [cls]

theorem cls_xor (a b : Byte) : cls (a ^^^ b) = cls a + cls b := by
  rw [cls, cls, cls, ← Finset.sum_add_distrib]
  refine Finset.sum_congr rfl fun i _ => ?_
  rw [BitVec.getLsbD_xor]
  cases a.getLsbD i <;> cases b.getLsbD i <;> simp [Class.add_self]

theorem cls_timesZ (a : Byte) : cls (timesZ a) = zClass * cls a := by
  have shifted : cls (a <<< 1) + (if a.msb then zClass ^ 8 else 0) = zClass * cls a := by
    have msb : a.msb = a.getLsbD 7 := rfl
    have term (i : Nat) : (if a.getLsbD i then zClass ^ (i + 1) else 0) = zClass * if a.getLsbD i then zClass ^ i else 0 := by
      rw [mul_ite, mul_zero, pow_succ']
    have low : cls (a <<< 1) = ∑ i ∈ Finset.range 7, if a.getLsbD i then zClass ^ (i + 1) else 0 := by
      rw [cls, Finset.sum_range_succ', BitVec.getLsbD_shiftLeft]
      refine (add_zero _).trans (Finset.sum_congr rfl fun i hi => ?_)
      have inside : i + 1 < 8 := by have := Finset.mem_range.mp hi; omega
      rw [BitVec.getLsbD_shiftLeft]
      simp [-BitVec.getLsbD_eq_getElem, inside]
    rw [low, msb, ← Finset.sum_range_succ (fun i => if a.getLsbD i then zClass ^ (i + 1) else 0), cls, Finset.mul_sum]
    exact Finset.sum_congr rfl fun i _ => term i
  have reduced : cls (if a.msb then 0x1D#8 else 0#8) = if a.msb then zClass ^ 8 else 0 := by
    cases a.msb
    · exact cls_zero
    · rw [if_pos rfl, if_pos rfl, zClass_pow_eight]; simp [cls, Finset.sum_range_succ]
      ring
  rw [timesZ, cls_xor, reduced, shifted]

theorem cls_timesZPow (i : Nat) (a : Byte) : cls (timesZPow i a) = zClass ^ i * cls a := by
  induction i with
  | zero => rw [pow_zero, one_mul]; rfl
  | succ i ih => rw [timesZPow, cls_timesZ, ih, pow_succ', mul_assoc]

theorem cls_alphaPow (i : Nat) : cls (alphaPow i) = zClass ^ i := by
  rw [alphaPow, cls_timesZPow, show (1#8 : Byte) = 1 from rfl, cls_one, mul_one]

theorem cls_xorAll (l : List Byte) : cls (xorAll l) = (l.map cls).sum := by
  induction l with
  | nil => exact cls_zero
  | cons a l ih => rw [xorAll_cons, cls_xor, ih, List.map_cons, List.sum_cons]

/-- The field product is the product of classes. -/
theorem cls_fieldProduct (a b : Byte) : cls (fieldProduct a b) = cls a * cls b := by
  have term (i : Nat) : cls (if b.getLsbD i then timesZPow i a else 0#8) = cls a * if b.getLsbD i then zClass ^ i else 0 := by
    cases b.getLsbD i
    · simpa using cls_zero
    · simp only [if_true, cls_timesZPow, mul_comm]
  calc cls (fieldProduct a b)
    _ = ∑ i ∈ Finset.range 8, cls (if b.getLsbD i then timesZPow i a else 0#8) := by
      rw [fieldProduct, cls_xorAll, List.map_map]; rfl
    _ = cls a * cls b := by
      rw [Finset.sum_congr rfl fun i _ => term i, ← Finset.mul_sum]; rfl

/-- Every nonzero element is a power of `z`, whose class has an inverse. -/
theorem cls_ne_zero {a : Byte} (h : a ≠ 0) : cls a ≠ 0 := by
  have nontrivial : Nontrivial Class := by
    have degree : fieldPoly.degree = 8 := by unfold fieldPoly; compute_degree!
    exact AdjoinRoot.nontrivial fieldPoly (by rw [degree]; decide)
  have unit : IsUnit zClass := by
    refine IsUnit.of_mul_eq_one (zClass ^ 254) ?_
    rw [← pow_succ', ← cls_alphaPow, alphaPow_255, cls_one]
  rw [← (alphaPow_logAt h).2, cls_alphaPow]
  exact (unit.pow _).ne_zero

theorem cls_injective {a b : Byte} (h : cls a = cls b) : a = b := by
  by_contra ne
  refine cls_ne_zero (a := a ^^^ b) (by simpa using ne) ?_
  rw [cls_xor, h, Class.add_self]

theorem cls_gfmul (a b : Byte) : cls (gfmul a b) = cls a * cls b := by
  rw [gfmul_eq_fieldProduct, cls_fieldProduct]

/-- `gfinv` gives the inverse (41_gf.md R143). -/
theorem cls_gfinv {b : Byte} (h : b ≠ 0) : cls (gfinv b) * cls b = 1 := by
  obtain ⟨small, power⟩ := alphaPow_logAt h
  calc cls (gfinv b) * cls b
    _ = cls (alphaPow (255 - logAt b)) * cls (alphaPow (logAt b)) := by rw [gfinv, expAt_mod, power]
    _ = cls (alphaPow 255) := by
      rw [← cls_fieldProduct, fieldProduct_alphaPow, Nat.sub_add_cancel small.le]
    _ = 1 := by rw [alphaPow_255, cls_one]

/-! ## Coefficient lists as polynomials -/

/-- The polynomial of a coefficient list, highest degree first (41_gf.md R147). -/
noncomputable def toPoly : Poly → Class[X]
  | [] => 0
  | c :: P => C (cls c) * X ^ P.length + toPoly P

theorem toPoly_append (P Q : Poly) : toPoly (P ++ Q) = toPoly P * X ^ Q.length + toPoly Q := by
  induction P with
  | nil => simp [toPoly]
  | cons c P ih => rw [List.cons_append, toPoly, ih, toPoly, List.length_append]; ring

theorem toPoly_replicate_zero (n : Nat) : toPoly (List.replicate n 0) = 0 := by
  induction n with
  | zero => rfl
  | succ n ih => rw [List.replicate_succ, toPoly, ih, cls_zero]; simp

theorem toPoly_normalize (P : Poly) : toPoly (normalize P) = toPoly P := by
  induction P with
  | nil => rfl
  | cons c P ih =>
    by_cases hc : c = 0#8
    · subst hc
      have zero : cls 0#8 = 0 := cls_zero
      rw [toPoly, zero, C_0, zero_mul, zero_add, ← ih]
      rfl
    · simp [normalize, hc]

theorem toPoly_map_gfmul (a : Byte) (P : Poly) : toPoly (P.map (gfmul a)) = C (cls a) * toPoly P := by
  induction P with
  | nil => simp [toPoly]
  | cons c P ih => rw [List.map_cons, toPoly, toPoly, ih, cls_gfmul, C_mul, List.length_map]; ring

theorem coeff_toPoly_of_le {P : Poly} {k : Nat} (h : P.length ≤ k) : (toPoly P).coeff k = 0 := by
  induction P with
  | nil => simp [toPoly]
  | cons c P ih =>
    rw [List.length_cons] at h
    rw [toPoly, coeff_add, coeff_C_mul_X_pow, if_neg (by omega), ih (by omega), add_zero]

/-- Coefficient `k` of the list, from the front, is the coefficient of `X^(length - 1 - k)`. -/
theorem coeff_toPoly {P : Poly} {k : Nat} (h : k < P.length) : (toPoly P).coeff (P.length - 1 - k) = cls (P.getD k 0) := by
  induction P generalizing k with
  | nil => simp at h
  | cons c P ih =>
    rw [List.length_cons] at h
    rw [toPoly, coeff_add, coeff_C_mul_X_pow, List.length_cons]
    cases k with
    | zero =>
      rw [if_pos (by omega), coeff_toPoly_of_le (by omega), add_zero, List.getD_cons_zero]
    | succ k =>
      rw [if_neg (by omega), zero_add, List.getD_cons_succ, ← ih (by omega)]
      congr 1; omega

theorem natDegree_toPoly_le (P : Poly) : (toPoly P).natDegree ≤ P.length - 1 := by
  rw [natDegree_le_iff_coeff_eq_zero]
  intro k above
  exact coeff_toPoly_of_le (by omega)

theorem eq_of_toPoly_of_length {P Q : Poly} (length : P.length = Q.length) (h : toPoly P = toPoly Q) : P = Q := by
  apply List.ext_getElem length
  intro k hP hQ
  have coeff := congrArg (coeff · (P.length - 1 - k)) h
  simp only [coeff_toPoly hP] at coeff
  rw [length, coeff_toPoly hQ] at coeff
  simpa [hP, hQ] using cls_injective coeff

/-- The leading coefficient of a normalised list sits at its length, so it cannot be longer than another of the same polynomial. -/
theorem length_le_of_toPoly {P Q : Poly} (normal : P.Normalised) (h : toPoly P = toPoly Q) : P.length ≤ Q.length := by
  cases P with
  | nil => exact Nat.zero_le _
  | cons c P =>
    by_contra longer
    rw [List.length_cons] at longer
    have top : (toPoly (c :: P)).coeff P.length = cls c := coeff_toPoly (P := c :: P) (k := 0) (by simp)
    rw [h, coeff_toPoly_of_le (by omega)] at top
    have nonzero : c ≠ 0 := by simpa [Poly.Normalised] using normal
    exact cls_ne_zero nonzero top.symm

/-- A normalised list is fixed by its polynomial (41_gf.md R148). -/
theorem eq_of_toPoly {P Q : Poly} (hP : P.Normalised) (hQ : Q.Normalised) (h : toPoly P = toPoly Q) : P = Q :=
  eq_of_toPoly_of_length (Nat.le_antisymm (length_le_of_toPoly hP h) (length_le_of_toPoly hQ h.symm)) h

/-! ## The list operations are the ring's -/

theorem toPoly_zipWith_xor {P Q : Poly} (length : P.length = Q.length) :
    toPoly (List.zipWith (fun x y => x ^^^ y) P Q) = toPoly P + toPoly Q := by
  induction P generalizing Q with
  | nil => 
    have : Q = [] := List.length_eq_zero_iff.mp length.symm
    simp [this, toPoly]
  | cons c P ih =>
    cases Q with
    | nil => simp at length
    | cons d Q =>
      have same : P.length = Q.length := by simpa using length
      rw [List.zipWith_cons_cons, toPoly, ih same, toPoly, toPoly, cls_xor, C_add, List.length_zipWith, ← same, Nat.min_self]
      ring

theorem toPoly_addPoly (A B : Poly) : toPoly (addPoly A B) = toPoly A + toPoly B := by
  have padded (n : Nat) (P : Poly) : toPoly (List.replicate n 0#8 ++ P) = toPoly P := by
    rw [toPoly_append, show (0#8 : Byte) = 0 from rfl, toPoly_replicate_zero, zero_mul, zero_add]
  rw [addPoly, toPoly_zipWith_xor, padded, padded]
  simp only [List.length_append, List.length_replicate]
  omega

theorem toPoly_xorInto {i : Nat} {ps rs : List Byte} (h : i + ps.length ≤ rs.length) :
    toPoly (xorInto i ps rs) = toPoly rs + toPoly ps * X ^ (rs.length - i - ps.length) := by
  induction rs generalizing i ps with
  | nil => 
    have : ps = [] := List.length_eq_zero_iff.mp (by rw [List.length_nil] at h; omega)
    cases i <;> simp [this, xorInto, toPoly]
  | cons r rs ih =>
    rw [List.length_cons] at h
    cases i with
    | succ i =>
      rw [xorInto, toPoly, ih (by omega), toPoly, xorInto_length, List.length_cons, Nat.add_sub_add_right]; ring
    | zero =>
      cases ps with
      | nil => simp [xorInto, toPoly]
      | cons p ps =>
        rw [List.length_cons] at h
        rw [xorInto, toPoly, ih (by omega), toPoly, toPoly, xorInto_length, cls_xor, C_add, List.length_cons, List.length_cons]
        obtain ⟨e, length⟩ : ∃ e, rs.length = ps.length + e := ⟨rs.length - ps.length, by omega⟩
        have rest : rs.length - 0 - ps.length = e := by omega
        have rest' : rs.length + 1 - 0 - (ps.length + 1) = e := by omega
        rw [rest, rest', length, pow_add]
        ring

/-- The rows of 41_gf.md R149 add up to the product, placed at the end of `R`. -/
theorem toPoly_polymulRows {B A R : Poly} {i : Nat} (h : i + A.length + B.length ≤ R.length + 1) (hB : B ≠ []) :
    toPoly (polymulRows B i A R) = toPoly R + toPoly A * toPoly B * X ^ (R.length + 1 - i - A.length - B.length) := by
  have : 0 < B.length := List.length_pos_iff.mpr hB
  induction A generalizing i R with
  | nil => simp [polymulRows, toPoly]
  | cons a A ih =>
    rw [List.length_cons] at h
    have e : (R.length - i - B.length) = A.length + (R.length + 1 - (i + 1) - A.length - B.length) := by omega
    have e' : R.length + 1 - i - (A.length + 1) - B.length = R.length + 1 - (i + 1) - A.length - B.length := by omega
    rw [polymulRows, ih (by rw [xorInto_length]; omega), toPoly_xorInto (by rw [List.length_map]; omega), toPoly_map_gfmul,
      toPoly, xorInto_length, List.length_map, List.length_cons, e', e, pow_add]
    ring

theorem toPoly_polymul (A B : Poly) : toPoly (polymul A B) = toPoly A * toPoly B := by
  unfold polymul
  split
  case isTrue h =>
    rcases h with h | h <;> rw [List.length_eq_zero_iff.mp h] <;> simp [toPoly]
  case isFalse h =>
    obtain ⟨hA, hB⟩ := not_or.mp h
    have room : 0 + A.length + B.length ≤ (List.replicate (A.length + B.length - 1) (0 : Byte)).length + 1 := by
      rw [List.length_replicate]; omega
    rw [toPoly_polymulRows room (fun empty => hB (by rw [empty]; rfl)), toPoly_replicate_zero, List.length_replicate, zero_add,
      show A.length + B.length - 1 + 1 - 0 - A.length - B.length = 0 by omega, pow_zero, mul_one]

/-! ## Products -/

/-- Coefficient `k` from the front, for every `k`: turn the polynomial round at its length. -/
theorem coeff_reflect_toPoly {P : Poly} (h : P ≠ []) (k : Nat) :
    (reflect (P.length - 1) (toPoly P)).coeff k = cls (P.getD k 0) := by
  have := List.length_pos_iff.mpr h
  rw [coeff_reflect]
  rcases Nat.lt_or_ge k P.length with inside | past
  · rw [revAt_le (by omega), coeff_toPoly inside]
  · rw [revAt_eq_self_of_lt (by omega), coeff_toPoly_of_le past, List.getD_eq_default _ _ past, cls_zero]

theorem cls_productCoeff (A B : Poly) (k : Nat) :
    cls (productCoeff A B k) = ∑ i ∈ Finset.range (k + 1), cls (A.getD i 0) * cls (B.getD (k - i) 0) := by
  rw [productCoeff, cls_xorAll, List.map_map]
  simp only [Function.comp_def, cls_fieldProduct]
  rfl

theorem polymul_getD {A B : Poly} (hA : A ≠ []) (hB : B ≠ []) (k : Nat) :
    (polymul A B).getD k 0 = productCoeff A B k := by
  have la := List.length_pos_iff.mpr hA
  have lb := List.length_pos_iff.mpr hB
  have length : (polymul A B).length = A.length + B.length - 1 := by rw [polymul_length, if_neg (by omega)]
  have nonempty : polymul A B ≠ [] := List.length_pos_iff.mp (by omega)
  apply cls_injective
  rw [← coeff_reflect_toPoly nonempty, length, show A.length + B.length - 1 - 1 = (A.length - 1) + (B.length - 1) by omega,
    toPoly_polymul, reflect_mul _ _ (natDegree_toPoly_le A) (natDegree_toPoly_le B), coeff_mul,
    Finset.Nat.sum_antidiagonal_eq_sum_range_succ fun i j =>
      (reflect (A.length - 1) (toPoly A)).coeff i * (reflect (B.length - 1) (toPoly B)).coeff j, cls_productCoeff]
  simp only [coeff_reflect_toPoly hA, coeff_reflect_toPoly hB]

/-- The leading coefficient of a product (41_gf.md R149). -/
theorem polymul_head {a b : Byte} {A B : Poly} : (polymul (a :: A) (b :: B)).head? = some (gfmul a b) := by
  have first : (polymul (a :: A) (b :: B)).getD 0 0 = gfmul a b := by
    rw [polymul_getD (by simp) (by simp), gfmul_eq_fieldProduct]
    simp [productCoeff, xorAll_cons, xorAll_nil]
  have nonempty : 0 < (polymul (a :: A) (b :: B)).length := by rw [polymul_length]; simp
  cases product : polymul (a :: A) (b :: B) with
  | nil => rw [product] at nonempty; simp at nonempty
  | cons c P => rw [product] at first; simpa using first

/-- A product of nonzero elements is not 0. -/
theorem gfmul_ne_zero {a b : Byte} (ha : a ≠ 0) (hb : b ≠ 0) : gfmul a b ≠ 0 := by
  rw [gfmul, if_neg (not_or.mpr ⟨ha, hb⟩), expAt_mod]
  exact alphaPow_ne_zero _

theorem polymul_normalised {A B : Poly} (hA : A.Normalised) (hB : B.Normalised) : (polymul A B).Normalised := by
  cases A with
  | nil => simp [polymul, Poly.Normalised]
  | cons a A =>
    cases B with
    | nil => simp [polymul, Poly.Normalised]
    | cons b B =>
      simp only [Poly.Normalised, List.head?_cons, ne_eq, Option.some.injEq, polymul_head] at *
      exact gfmul_ne_zero hA hB

/-- Settles O14: the checked length is that of the product, whose coefficients are `polymul_getD`. -/
theorem pMulWritesTheConvolution : Obligations.PMulWritesTheConvolution := by
  intro d a b s A B len
  have body := commandBody_pMul d a b s
  change commandBody (.pMul d a b) s = if productLen A B ≤ 256 then _ else _ at body
  refine ⟨fun hA hB short => ?_, fun zero => ?_, fun hA hB long => ?_⟩
  · have la := List.length_pos_iff.mpr hA
    have lb := List.length_pos_iff.mpr hB
    have product : productLen A B = len := if_pos ⟨la, lb⟩
    refine ⟨polymul A B, by rw [polymul_length, if_neg (by omega)], fun k _ => polymul_getD hA hB k, ?_⟩
    exact exec_ok (body.trans (if_pos (product ▸ short)))
  · have none : productLen A B = 0 := by rcases zero with h | h <;> simp [productLen, h]
    have empty : polymul A B = [] := by rcases zero with h | h <;> simp [polymul, h]
    have answer := exec_ok (body.trans (if_pos (by rw [none]; decide)))
    change exec (.pMul d a b) s = .next (s.writePoly d (polymul A B)).complete at answer
    rw [empty] at answer
    exact answer
  · have la := List.length_pos_iff.mpr hA
    have lb := List.length_pos_iff.mpr hB
    have product : productLen A B = len := if_pos ⟨la, lb⟩
    rw [product] at body
    exact exec_error (body.trans (if_neg (Nat.not_le.mpr long)))

/-! ## Remainders -/

/-- The multiple of the divisor that a pass takes away (41_gf.md R150). -/
def passFactor (B R : Poly) : Byte := gfmul (R.headD 0) (gfinv (B.headD 0))

theorem polymodPass_eq (B R : Poly) :
    polymodPass B R = normalize (xorInto 0 (B.map fun b => gfmul b (passFactor B R)) R) := rfl

theorem toPoly_map_gfmul_right (f : Byte) (B : Poly) : toPoly (B.map fun b => gfmul b f) = C (cls f) * toPoly B := by
  have comm : (fun b => gfmul b f) = gfmul f := funext fun b => cls_injective (by rw [cls_gfmul, cls_gfmul, mul_comm])
  rw [comm, toPoly_map_gfmul]

theorem add_self_eq_zero (p : Class[X]) : p + p = 0 := by
  ext k
  rw [coeff_add, Class.add_self, coeff_zero]

/-- A pass takes away a multiple of the divisor. -/
theorem toPoly_polymodPass {B R : Poly} (h : B.length ≤ R.length) :
    toPoly (polymodPass B R) =
      toPoly R + toPoly (passFactor B R :: List.replicate (R.length - B.length) 0) * toPoly B := by
  rw [polymodPass_eq, toPoly_normalize, toPoly_xorInto (by rw [List.length_map]; omega), toPoly_map_gfmul_right, toPoly,
    toPoly_replicate_zero, List.length_map, List.length_replicate, Nat.sub_zero]
  ring

/-- A pass clears the leading coefficient, so it shortens the polynomial. -/
theorem polymodPass_length_lt {B R : Poly} (hB : B.Normalised) (nonzero : B ≠ []) (h : B.length ≤ R.length) :
    (polymodPass B R).length < R.length := by
  cases B with
  | nil => exact absurd rfl nonzero
  | cons b B =>
    cases R with
    | nil => simp at h
    | cons r R =>
      have hb : b ≠ 0 := by simpa [Poly.Normalised] using hB
      have cleared : r ^^^ gfmul b (passFactor (b :: B) (r :: R)) = 0 := by
        have : gfmul b (passFactor (b :: B) (r :: R)) = r := by
          apply cls_injective
          rw [cls_gfmul, passFactor, cls_gfmul, List.headD_cons, List.headD_cons]
          linear_combination cls r * cls_gfinv hb
        rw [this, BitVec.xor_self]
        rfl
      rw [polymodPass_eq, List.map_cons, xorInto, cleared]
      calc (normalize (0 :: xorInto 0 (B.map _) R)).length
        _ = (normalize (xorInto 0 (B.map fun b' => gfmul b' (passFactor (b :: B) (r :: R))) R)).length := rfl
        _ ≤ (xorInto 0 (B.map fun b' => gfmul b' (passFactor (b :: B) (r :: R))) R).length := normalize_length_le _
        _ < (r :: R).length := by rw [xorInto_length]; exact Nat.lt_succ_self _

/-- The loop ends below the divisor's length, and takes multiples of the divisor away. -/
theorem polymodLoop_spec {B : Poly} (hB : B.Normalised) (nonzero : B ≠ []) {fuel : Nat} {R : Poly}
    (hR : R.Normalised) (enough : R.length ≤ fuel) :
    (polymodLoop B fuel R).Normalised ∧ (polymodLoop B fuel R).length < B.length ∧
      ∃ Q : Poly, toPoly R = toPoly Q * toPoly B + toPoly (polymodLoop B fuel R) := by
  have := List.length_pos_iff.mpr nonzero
  induction fuel generalizing R with
  | zero => exact ⟨hR, by rw [polymodLoop]; omega, [], by simp [toPoly, polymodLoop]⟩
  | succ fuel ih =>
    rw [polymodLoop]
    split
    case isFalse short => exact ⟨hR, Nat.lt_of_not_le short, [], by simp [toPoly]⟩
    case isTrue long =>
      have shorter := polymodPass_length_lt hB nonzero long
      have passNormal : (polymodPass B R).Normalised := normalize_normalised _
      obtain ⟨normal, short, Q, division⟩ := ih passNormal (by omega)
      refine ⟨normal, short, addPoly (passFactor B R :: List.replicate (R.length - B.length) 0) Q, ?_⟩
      rw [toPoly_addPoly, add_mul, add_assoc, ← division, toPoly_polymodPass long]
      linear_combination
        -add_self_eq_zero (toPoly (passFactor B R :: List.replicate (R.length - B.length) 0) * toPoly B)

theorem polymod_spec {A B : Poly} (hA : A.Normalised) (hB : B.Normalised) (nonzero : B ≠ []) :
    (polymod A B).Normalised ∧ (polymod A B).length < B.length ∧
      ∃ Q : Poly, toPoly A = toPoly Q * toPoly B + toPoly (polymod A B) :=
  polymodLoop_spec hB nonzero hA (Nat.le_refl _)

/-- Settles O15: the quotient of `polymod_spec`; a normalised list is fixed by its polynomial. -/
theorem pModWritesTheRemainder : Obligations.PModWritesTheRemainder := by
  intro d a b s
  refine ⟨fun hA hB nonzero => ?_, fun zero => exec_error ((commandBody_pMod d a b s).trans (if_pos zero))⟩
  obtain ⟨normal, short, Q, division⟩ := polymod_spec hA hB nonzero
  refine ⟨Q, polymod (s.readPoly a) (s.readPoly b), exec_ok ((commandBody_pMod d a b s).trans (if_neg nonzero)), normal,
    short, eq_of_toPoly (normalize_normalised _) hA ?_⟩
  rw [toPoly_normalize, toPoly_addPoly, toPoly_polymul, ← division]

/-! ## The generator and its roots -/

theorem toPoly_gen_succ (ec : Nat) : toPoly (gen (ec + 1)) = toPoly (gen ec) * (X + C (cls (expAt ec))) := by
  have one : cls 1#8 = 1 := cls_one
  rw [gen, toPoly_polymul]
  simp [toPoly, one]

theorem gen_head (ec : Nat) : (gen ec).head? = some 1 := by
  induction ec with
  | zero => rfl
  | succ ec ih =>
    rw [gen]
    cases generator : gen ec with
    | nil => rw [generator] at ih; cases ih
    | cons c G =>
      rw [generator, List.head?_cons, Option.some.injEq] at ih
      rw [polymul_head, ih]
      rfl

theorem gen_normalised (ec : Nat) : (gen ec).Normalised := by
  rw [Poly.Normalised, gen_head]
  decide

/-- alpha^0, ..., alpha^(ec-1) are roots of the generator (42_rs.md R180). -/
theorem eval_toPoly_gen {ec : Nat} (h : ec ≤ 256) : ∀ i < ec, (toPoly (gen ec)).eval (cls (alphaPow i)) = 0 := by
  induction ec with
  | zero => simp
  | succ ec ih =>
    intro i hi
    rw [toPoly_gen_succ, eval_mul, eval_add, eval_X, eval_C, expAt_eq_alphaPow (by omega)]
    rcases Nat.lt_succ_iff_lt_or_eq.mp hi with below | rfl
    · rw [ih (by omega) i below, zero_mul]
    · rw [Class.add_self, mul_zero]

/-- Horner's rule evaluates the polynomial. -/
theorem cls_evalAt (P : Poly) (x : Byte) : cls (evalAt P x) = (toPoly P).eval (cls x) := by
  have horner : ∀ (P : Poly) (acc : Byte), cls (P.foldl (fun acc c => fieldProduct acc x ^^^ c) acc) =
      cls acc * cls x ^ P.length + (toPoly P).eval (cls x) := by
    intro P
    induction P with
    | nil => intro acc; simp [toPoly]
    | cons c P ih =>
      intro acc
      rw [List.foldl_cons, ih, cls_xor, cls_fieldProduct, toPoly, eval_add, eval_mul, eval_C, eval_pow, eval_X,
        List.length_cons]
      ring
  have zero : cls 0#8 = 0 := cls_zero
  rw [evalAt, horner, zero, zero_mul, zero_add]

/-- Settles O16: the generator is monic of its length, with the roots of `eval_toPoly_gen`. -/
theorem rsGenWritesTheGenerator : Obligations.RsGenWritesTheGenerator := by
  intro d ec s small
  refine ⟨gen ec, gen_length ec, gen_head ec, fun i hi => cls_injective ?_, exec_ok (i := .rsGen d ec) rfl⟩
  rw [cls_evalAt, eval_toPoly_gen (by omega) i hi, cls_zero]

/-! ## What every step keeps -/

theorem polynomialsOk_congr {s t : State} (h : s.PolynomialsOk) (pr : t.pr = s.pr) : t.PolynomialsOk := by
  unfold State.PolynomialsOk
  rw [pr]
  exact h

theorem reset_polynomialsOk : State.reset.PolynomialsOk := by decide

theorem writePoly_polynomialsOk {s : State} (h : s.PolynomialsOk) (d : PReg) {P : Poly} (normal : P.Normalised)
    (short : P.length ≤ 256) : (s.writePoly d P).PolynomialsOk := by
  intro k
  by_cases own : d.index.val = k.val
  · simp only [writePoly_pr, Fin.getElem_fin, own, Vector.getElem_set_self]
    exact ⟨normal, short⟩
  · simp only [writePoly_pr, Fin.getElem_fin, Vector.getElem_set_ne _ _ own]
    exact h k

theorem readPoly_ok {s : State} (h : s.PolynomialsOk) (k : PReg) :
    (s.readPoly k).Normalised ∧ (s.readPoly k).length ≤ 256 :=
  h k.index

theorem shifted_normalised {S : Poly} (h : S.Normalised) (shift : Nat) : (shifted S shift).Normalised := by
  cases S with
  | nil => exact h
  | cons c S => exact h

/-- The length of a product is the one `PMUL` checks (41_gf.md R155). -/
theorem polymul_length_eq_productLen (A B : Poly) : (polymul A B).length = productLen A B := by
  rw [polymul_length, productLen]
  split <;> split <;> omega

/-- An effect keeps the polynomial registers well formed: a result is normalised, and as long as checked or bounded. -/
theorem Effect.polynomialsOk {i : Instr} {s u : State} (effect : Effect s u i) (wf : i.WellFormed)
    (h : s.PolynomialsOk) : u.PolynomialsOk := by
  cases i <;> simp only [Effect] at effect
  case pSetNum d shift =>
    obtain ⟨short, rfl⟩ := effect
    exact writePoly_polynomialsOk h d (shifted_normalised (normalize_normalised _) shift) short
  case pMul d a b =>
    obtain ⟨short, rfl⟩ := effect
    exact writePoly_polynomialsOk h d (polymul_normalised (readPoly_ok h a).1 (readPoly_ok h b).1)
      (by rw [polymul_length_eq_productLen]; exact short)
  case pMod d a b =>
    obtain ⟨nonzero, rfl⟩ := effect
    exact writePoly_polynomialsOk h d (polymod_spec (readPoly_ok h a).1 (readPoly_ok h b).1 nonzero).1
      ((polymodLoop_length_le _ _ _).trans (readPoly_ok h a).2)
  case rsGen d ec =>
    subst effect
    have small : ec < 256 := fitsImm8_iff.mp wf
    exact writePoly_polynomialsOk h d (gen_normalised ec) (by rw [gen_length]; omega)
  case mtxFinal =>
    obtain ⟨mask, pen, ints, darks, final⟩ := final_eq s (configTable s)
    exact polynomialsOk_congr h (by simp [effect, final])
  case run =>
    obtain ⟨mask, pen, ints, darks, final⟩ := final_eq
      ((s.writeCwRun (s.interleavedData (configTable s))).writeBlk (configTable s).regs) (configTable s)
    exact polynomialsOk_congr h (by simp [effect, final])
  case rsSyn | maskScore => obtain ⟨_, rfl⟩ := effect; exact polynomialsOk_congr h (by simp)
  all_goals exact polynomialsOk_congr h (by simp [effect])

/-- Settles O57: resets empty the registers, effects are `Effect.polynomialsOk`, and nothing else writes them. -/
theorem stepKeepsPolynomialsNormalised : Obligations.StepKeepsPolynomialsNormalised := by
  intro s t
  refine keeps_of_moves (p := State.PolynomialsOk) (fun _ _ h => h) (keeps_busRead (fun _ _ h => h) fun _ h => h)
    (keeps_busWrite (fun _ h => h) (fun s _ => ?_) (fun _ _ h => h) (fun _ v h => ?_) (fun _ _ h _ _ => h) (fun _ h => h)
      (fun _ _ _ _ _ _ _ _ h => h) (fun _ _ _ _ h => h) (fun _ _ _ _ h => h)) (fun _ _ => reset_polynomialsOk)
    (fun s i u h _ wf effect => effect.polynomialsOk wf h) (fun _ _ h _ => h)
  · exact polynomialsOk_congr reset_polynomialsOk (by rw [softReset_eq])
  · exact polynomialsOk_congr h (by rw [writeStatus_eq])

end Sys2Proof.Machine

end

section
/-! The Reed-Solomon commands (42_rs.md): as many EC codewords as asked for, syndromes as values of the received polynomial, and
no syndrome but 0 for data followed by its EC codewords. -/

namespace Sys2Proof.Machine

open Sys2Proof.Spec Polynomial

theorem padTo256_getD (l : List Byte) {i : Nat} (h : i < 256) : (padTo256 l).getD i 0 = l.getD i 0 := by
  rw [Vector.getD, Array.getD, dif_pos (by simpa using h)]
  exact padTo256_getElem l h

/-! ## EC codewords -/

/-- The remainder that makes the EC codewords: shorter than the generator, and congruent to the shifted data (42_rs.md R181). -/
theorem ecRemainder_spec (D : List Byte) (ec : Nat) :
    (polymod (normalize (D ++ List.replicate ec 0)) (gen ec)).length ≤ ec ∧
      ∃ Q : Poly, toPoly D * X ^ ec =
        toPoly Q * toPoly (gen ec) + toPoly (polymod (normalize (D ++ List.replicate ec 0)) (gen ec)) := by
  have monic : gen ec ≠ [] := List.length_pos_iff.mp (by rw [gen_length]; exact Nat.succ_pos ec)
  obtain ⟨-, short, Q, division⟩ :=
    polymod_spec (normalize_normalised (D ++ List.replicate ec 0)) (gen_normalised ec) monic
  rw [gen_length] at short
  rw [toPoly_normalize, toPoly_append, toPoly_replicate_zero, List.length_replicate, add_zero] at division
  exact ⟨Nat.le_of_lt_succ short, Q, division⟩

theorem ecwords_length (D : List Byte) (ec : Nat) : (ecwords D ec).length = ec := by
  have short := (ecRemainder_spec D ec).1
  simp only [ecwords, List.length_append, List.length_replicate]
  omega

/-- Data followed by its EC codewords is a multiple of the generator (42_rs.md R187). -/
theorem toPoly_append_ecwords (D : List Byte) (ec : Nat) :
    ∃ Q : Poly, toPoly (D ++ ecwords D ec) = toPoly Q * toPoly (gen ec) := by
  obtain ⟨-, Q, division⟩ := ecRemainder_spec D ec
  refine ⟨Q, ?_⟩
  have words : toPoly (ecwords D ec) = toPoly (polymod (normalize (D ++ List.replicate ec 0)) (gen ec)) := by
    rw [ecwords, toPoly_append, toPoly_replicate_zero, zero_mul, zero_add]
  rw [toPoly_append, ecwords_length, words, division, add_assoc, add_self_eq_zero, add_zero]

/-- Settles O17: the result memory holds the EC codewords, then zeros. -/
theorem rsEncWritesTheEcCodewords : Obligations.RsEncWritesTheEcCodewords := by
  intro src ec s _ range
  rw [streamOf_eq]
  refine ⟨_, exec_ok ((commandBody_rsEnc src ec s).trans (if_pos range)), rfl, ecwords_length _ _, fun i small => ?_⟩
  refine (padTo256_getD _ small).trans ?_
  split
  case isTrue => rfl
  case isFalse past => exact List.getD_eq_default _ _ (by rw [ecwords_length]; omega)

/-! ## Syndromes -/

theorem cls_syndrome (D : List Byte) (i : Nat) : cls (syndrome D i) = (toPoly D).eval (cls (alphaPow i)) := by
  induction D with
  | nil => exact cls_zero.trans eval_zero.symm
  | cons c D ih =>
    rw [syndrome, cls_xor, cls_gfmul, expAt_mod, ih, toPoly, eval_add, eval_mul, eval_C, eval_pow, eval_X, cls_alphaPow,
      cls_alphaPow, pow_mul]

/-- The sum of 42_rs.md R183 is the value of the polynomial at alpha^i. -/
theorem syndrome_eq_evalAt (D : List Byte) (i : Nat) : syndrome D i = evalAt D (alphaPow i) :=
  cls_injective (by rw [cls_syndrome, cls_evalAt])

theorem syndromes_getD (D : List Byte) (ec i : Nat) :
    (syndromes D ec).getD i 0 = if i < ec then evalAt D (alphaPow i) else 0 := by
  split
  case isTrue inside => simp [syndromes, inside, syndrome_eq_evalAt]
  case isFalse past => exact List.getD_eq_default _ _ (by rw [syndromes_length]; omega)

theorem syndromes_all_zero_iff (D : List Byte) (ec : Nat) :
    (syndromes D ec).all (· == 0) = true ↔ ∀ i < ec, evalAt D (alphaPow i) = 0 := by
  simp [syndromes, syndrome_eq_evalAt]

/-- What `RS_SYN` leaves (42_rs.md R186). -/
theorem exec_rsSyn {s : State} (src : Src) (ec : Nat) (range : InRange s) :
    exec (.rsSyn src ec) s =
      .next ((s.writeSyn (syndromes (streamOf s src) ec)).writeResult
        (if (syndromes (streamOf s src) ec).all (· == 0) then 1 else 0)).complete := by
  rw [streamOf_eq]
  exact exec_ok ((commandBody_rsSyn src ec s).trans (if_pos range))

/-- Settles O18: each syndrome is a value of the polynomial, and `RESULT` says whether all are 0. -/
theorem rsSynWritesTheSyndromes : Obligations.RsSynWritesTheSyndromes := by
  intro src ec s _ range
  refine ⟨_, exec_rsSyn src ec range, rfl, fun i small => ?_, ?_, ?_⟩
  · exact (padTo256_getD _ small).trans (syndromes_getD _ _ _)
  · rw [complete_result, writeResult_result]
    split
    · exact .inl rfl
    · exact .inr rfl
  · rw [complete_result, writeResult_result, ← syndromes_all_zero_iff]
    by_cases all : (syndromes (streamOf s src) ec).all (· == 0) = true
    · rw [if_pos all]; exact iff_of_true rfl all
    · rw [if_neg all]; exact iff_of_false (by decide) all

/-- Settles O20: the received polynomial is a multiple of the generator, whose roots are the evaluation points. -/
theorem encodedBlocksHaveZeroSyndromes : Obligations.EncodedBlocksHaveZeroSyndromes := by
  intro src src' ec s t u small range encoded range' received
  obtain ⟨t', answer, -, -, eco⟩ := rsEncWritesTheEcCodewords src ec s small range
  obtain rfl : t = t' := by rw [encoded] at answer; simpa using answer
  have words : (List.range ec).map (fun i => t.eco.getD i 0) = ecwords (streamOf s src) ec := by
    apply List.ext_getElem
    · simp [ecwords_length]
    · intro i h h'
      rw [List.getElem_map, List.getElem_range]
      have inside : i < ec := by simpa using h
      rw [eco i (by omega), if_pos inside]
      simp [h']
  have zero : ∀ i < ec, evalAt (streamOf u src') (alphaPow i) = 0 := by
    intro i inside
    obtain ⟨Q, multiple⟩ := toPoly_append_ecwords (streamOf s src) ec
    apply cls_injective
    rw [cls_evalAt, received, words, multiple, eval_mul, eval_toPoly_gen (by omega) i inside, mul_zero, cls_zero]
  refine ⟨_, exec_rsSyn src' ec range', ?_, fun i small => ?_⟩
  · rw [complete_result, writeResult_result, if_pos ((syndromes_all_zero_iff _ _).mpr zero)]
  · refine (padTo256_getD _ small).trans ((syndromes_getD _ _ _).trans ?_)
    split
    case isTrue inside => exact zero i inside
    case isFalse => rfl

end Sys2Proof.Machine

end

section
/-! The blocks (43_blocks.md): what a row of the block table promises, where the interleaving puts each codeword, and what an
abandoned writer leaves. -/

namespace Sys2Proof.Machine

open Sys2Proof.Spec

/-! ## The block table -/

theorem blockTable_mem {v : Nat} (low : 1 ≤ v) (high : v ≤ 40) (e : Ecc) : ∃ r ∈ blockRows, blockTable v e ∈ r := by
  obtain ⟨versions, rows⟩ := blockRows_ok
  have row : v - 1 < blockRows.length := by omega
  have levels : blockRows[v - 1].length = 4 := by
    have := List.all_eq_true.mp rows _ (List.getElem_mem row)
    simp only [Bool.and_eq_true, beq_iff_eq] at this
    exact this.1
  have level : e.code < blockRows[v - 1].length := by rw [levels]; cases e <;> decide
  refine ⟨_, List.getElem_mem row, ?_⟩
  rw [blockTable, if_neg (by omega), List.getD_eq_getElem _ _ row, List.getD_eq_getElem _ _ level]
  exact List.getElem_mem level

/-- The relations of 43_blocks.md R200 and R201, and the bounds of the table. -/
structure RowSpec (P : BlockParams) : Prop where
  b1 : 1 ≤ P.b1
  d2 : P.d2 = P.d1 + 1
  tdata : P.tdata = P.b1 * P.d1 + P.b2 * P.d2
  tcw : P.tcw = (P.b1 + P.b2) * (P.d1 + P.ec) + P.b2
  b2 : P.b2 = P.tcw % (P.b1 + P.b2)
  d1 : P.d1 = P.tcw / (P.b1 + P.b2) - P.ec
  tcw_le : P.tcw ≤ 3706
  rem_le : P.rem ≤ 7

theorem blockTable_spec {v : Nat} (low : 1 ≤ v) (high : v ≤ 40) (e : Ecc) : RowSpec (blockTable v e) := by
  obtain ⟨r, row, mem⟩ := blockTable_mem low high e
  have rowsOk := List.all_eq_true.mp blockRows_ok.2 r row
  simp only [Bool.and_eq_true] at rowsOk
  have ok := List.all_eq_true.mp rowsOk.2 _ mem
  simp only [rowOk, Bool.and_eq_true, decide_eq_true_eq, beq_iff_eq] at ok
  obtain ⟨⟨⟨⟨⟨⟨⟨⟨⟨b1, d2⟩, tdata⟩, tcw⟩, b2⟩, d1⟩, -⟩, -⟩, tcw_le⟩, rem_le⟩ := ok
  exact ⟨b1, d2, tdata, tcw, b2, d1, tcw_le, rem_le⟩

/-- The number of data cells by the closed form of 44_matrix.md R250. -/
def dataCells (v : Nat) : Nat :=
  (16 * v + 128) * v + 64 - (if 2 ≤ v then 25 * (v / 7 + 2) * (v / 7 + 2) - 10 * (v / 7 + 2) - 55 else 0) -
    (if 7 ≤ v then 36 else 0)

theorem blockTable_cells {v : Nat} (low : 1 ≤ v) (high : v ≤ 40) (e : Ecc) :
    8 * (blockTable v e).tcw + (blockTable v e).rem = dataCells v := by
  have rows : ∀ w < 40, ∀ e ∈ [Ecc.L, .M, .Q, .H],
      8 * (blockTable (w + 1) e).tcw + (blockTable (w + 1) e).rem = dataCells (w + 1) := by decide +kernel
  obtain ⟨w, rfl⟩ : ∃ w, v = w + 1 := ⟨v - 1, by omega⟩
  exact rows w (by omega) e (by cases e <;> decide)

theorem configTable_spec {s : State} (legal : LegalVersion s) : RowSpec (configTable s) :=
  blockTable_spec legal.1 legal.2 _

/-- Settles O21: the body past its check, and the relations of the row. -/
theorem blkCfgLoadsConsistentParameters : Obligations.BlkCfgLoadsConsistentParameters := by
  intro s legal P
  obtain ⟨b1, d2, tdata, tcw, b2, d1, -, rem⟩ := configTable_spec legal
  exact ⟨exec_ok ((commandBody_blkCfg s).trans (if_pos legal)), b1, d2, tdata, tcw, b2, d1, rem,
    blockTable_cells legal.1 legal.2 _⟩

/-! ## Rows laid out flat -/

/-- Rows of one length `n` laid out flat: entry `k` of row `x` stands at `x * n + k`. -/
theorem flatMap_getElem? {α β : Type} {f : α → List β} {n : Nat} {l : List α} (length : ∀ a ∈ l, (f a).length = n)
    {x k : Nat} (hk : k < n) : (l.flatMap f)[x * n + k]? = l[x]?.bind fun a => (f a)[k]? := by
  induction l generalizing x with
  | nil => simp
  | cons a l ih =>
    obtain ⟨first, rest⟩ := List.forall_mem_cons.mp length
    rw [List.flatMap_cons]
    cases x with
    | zero => rw [List.getElem?_append_left (by omega)]; simp
    | succ x =>
      rw [List.getElem?_append_right (by rw [first, Nat.succ_mul]; omega), List.getElem?_cons_succ, ← ih rest, first,
        Nat.succ_mul]
      congr 1; omega

theorem flatMap_length {α β : Type} {f : α → List β} {n : Nat} {l : List α} (length : ∀ a ∈ l, (f a).length = n) :
    (l.flatMap f).length = l.length * n := by
  rw [List.length_flatMap, List.map_congr_left length, List.map_const', List.sum_replicate, smul_eq_mul]

/-- A round of 43_blocks.md R205 in which every list has its codeword. -/
theorem round_eq {lists : List (List Byte)} {x : Nat} (long : ∀ l ∈ lists, x < l.length) :
    (lists.filterMap fun l => l[x]?) = lists.map fun l => l.getD x 0 := by
  induction lists with
  | nil => rfl
  | cons l lists ih =>
    obtain ⟨first, rest⟩ := List.forall_mem_cons.mp long
    rw [List.filterMap_cons, List.getElem?_eq_getElem first, ih rest, List.map_cons, List.getD_eq_getElem _ _ first]

section
variable {lists : List (List Byte)} {n : Nat} (long : ∀ l ∈ lists, n ≤ l.length)
include long

theorem round_length {x : Nat} (hx : x ∈ List.range n) : (lists.filterMap fun l => l[x]?).length = lists.length := by
  have := List.mem_range.mp hx
  rw [round_eq fun l mem => by have := long l mem; omega, List.length_map]

theorem emit_length : (emit lists n).length = n * lists.length := by
  rw [emit, flatMap_length fun x => round_length long, List.length_range]

/-- Codeword `x` of list `k` comes at `x * (number of lists) + k`. -/
theorem emit_getElem? {x k : Nat} (hx : x < n) (hk : k < lists.length) :
    (emit lists n)[x * lists.length + k]? = some ((lists[k]).getD x 0) := by
  rw [emit, flatMap_getElem? (fun x => round_length long) hk, List.getElem?_range hx, Option.bind_some,
    round_eq fun l mem => by have := long l mem; omega]
  simp [hk]

end

/-! ## The interleaved sequence -/

/-- The data blocks (43_blocks.md R203). -/
def dataBlocks (s : State) (P : BlockParams) : List (List Byte) := (List.range P.blocks).map (dataBlock s P)

theorem dataBlocks_length (s : State) (P : BlockParams) : (dataBlocks s P).length = P.b1 + P.b2 := by
  rw [dataBlocks, List.length_map, List.length_range, BlockParams.blocks]

theorem ecBlocks_long (s : State) (P : BlockParams) : ∀ l ∈ (dataBlocks s P).map (fun b => ecwords b P.ec), P.ec ≤ l.length := by
  simp [ecwords_length]

section
variable {P : BlockParams} (row : RowSpec P)
include row

theorem off_add_len_le {k : Nat} (hk : k < P.blocks) : P.off k + P.len k ≤ P.tdata := by
  obtain ⟨_, d2, tdata, _⟩ := row
  unfold BlockParams.blocks at hk
  rw [tdata, BlockParams.off, BlockParams.len]
  split
  case isTrue first =>
    calc k * P.d1 + P.d1
      _ = (k + 1) * P.d1 := (Nat.succ_mul k P.d1).symm
      _ ≤ P.b1 * P.d1 := Nat.mul_le_mul_right _ first
      _ ≤ P.b1 * P.d1 + P.b2 * P.d2 := Nat.le_add_right ..
  case isFalse second =>
    calc P.b1 * P.d1 + (k - P.b1) * P.d2 + P.d2
      _ = P.b1 * P.d1 + (k - P.b1 + 1) * P.d2 := by rw [Nat.succ_mul, Nat.add_assoc]
      _ ≤ P.b1 * P.d1 + P.b2 * P.d2 := Nat.add_le_add_left (Nat.mul_le_mul_right _ (by omega)) _

theorem block_prefixOf (s : State) {k : Nat} (hk : k < P.blocks) :
    block P (s.prefixOf .data P.tdata) k = dataBlock s P k := by
  have inside := off_add_len_le row hk
  apply List.ext_getElem?
  intro j
  rw [block, dataBlock, List.getElem?_take, List.getElem?_drop, List.getElem?_map]
  split
  case isTrue hj => rw [prefixOf_getElem? _ _ (by omega), List.getElem?_range hj]; rfl
  case isFalse hj => rw [List.getElem?_eq_none (by rw [List.length_range]; omega)]; rfl

theorem d1_le_len (k : Nat) : P.d1 ≤ P.len k := by
  have := row.d2
  rw [BlockParams.len]
  split <;> omega

/-- The last round of the data codewords: only the blocks of group 2 have one more (43_blocks.md R205). -/
theorem extra_round (s : State) :
    ((dataBlocks s P).filterMap fun l => l[P.d1]?) =
      (List.range P.b2).map fun j => s.readDataEntry (P.off (P.b1 + j) + P.d1) := by
  have d2 := row.d2
  have group1 : (List.range P.b1).filterMap (fun k => (dataBlock s P k)[P.d1]?) = [] := by
    rw [List.filterMap_eq_nil_iff]
    intro k hk
    rw [List.getElem?_eq_none]
    simp [dataBlock, BlockParams.len, List.mem_range.mp hk]
  have group2 (j : Nat) : (dataBlock s P (P.b1 + j))[P.d1]? = some (s.readDataEntry (P.off (P.b1 + j) + P.d1)) := by
    simp [dataBlock, BlockParams.len, d2]
  rw [dataBlocks, List.filterMap_map, BlockParams.blocks, List.range_add, List.filterMap_append]
  simp only [Function.comp_def, group1, List.nil_append, List.filterMap_map, group2]
  exact congrFun List.filterMap_eq_map _

/-- The interleaved sequence in its three parts: the rounds of all blocks, the round of group 2, and the EC rounds. -/
theorem interleavedData_eq (s : State) :
    s.interleavedData P =
      emit (dataBlocks s P) P.d1 ++ (List.range P.b2).map (fun j => s.readDataEntry (P.off (P.b1 + j) + P.d1)) ++
        emit ((dataBlocks s P).map fun b => ecwords b P.ec) P.ec := by
  have blocks : (List.range P.blocks).map (block P (s.prefixOf .data P.tdata)) = dataBlocks s P :=
    List.map_congr_left fun k hk => block_prefixOf row s (List.mem_range.mp hk)
  have data : emit (dataBlocks s P) P.dMax =
      emit (dataBlocks s P) P.d1 ++ (List.range P.b2).map (fun j => s.readDataEntry (P.off (P.b1 + j) + P.d1)) := by
    rw [BlockParams.dMax]
    split
    case isTrue =>
      rw [row.d2, emit, List.range_succ, List.flatMap_append, List.flatMap_singleton, extra_round row]
      rfl
    case isFalse none =>
      rw [show P.b2 = 0 by omega, List.range_zero, List.map_nil, List.append_nil]
  rw [State.interleavedData, interleaved, blocks, data]

theorem dataBlocks_long (s : State) : ∀ l ∈ dataBlocks s P, P.d1 ≤ l.length := by
  simp only [dataBlocks, List.forall_mem_map]
  intro k _
  rw [dataBlock, List.length_map, List.length_range]
  exact d1_le_len row k

theorem tdata_eq : P.tdata = P.d1 * (P.b1 + P.b2) + P.b2 := by rw [row.tdata, row.d2]; ring

theorem interleavedData_length (s : State) : (s.interleavedData P).length = P.tcw := by
  rw [interleavedData_eq row, List.length_append, List.length_append, emit_length (dataBlocks_long row s),
    emit_length (ecBlocks_long s P), List.length_map, List.length_map, List.length_range, dataBlocks_length, row.tcw]
  ring

/-- Codeword `x` of block `k` (43_blocks.md R205). -/
theorem interleavedData_data (s : State) {k x : Nat} (hk : k < P.b1 + P.b2) (hx : x < P.d1) :
    (s.interleavedData P)[x * (P.b1 + P.b2) + k]? = some (s.readDataEntry (P.off k + x)) := by
  have blocks := dataBlocks_length s P
  have place : x * (P.b1 + P.b2) + k < (emit (dataBlocks s P) P.d1).length := by
    rw [emit_length (dataBlocks_long row s), blocks]
    calc x * (P.b1 + P.b2) + k
      _ < x * (P.b1 + P.b2) + (P.b1 + P.b2) := Nat.add_lt_add_left hk _
      _ = (x + 1) * (P.b1 + P.b2) := (Nat.succ_mul ..).symm
      _ ≤ P.d1 * (P.b1 + P.b2) := Nat.mul_le_mul_right _ hx
  rw [interleavedData_eq row, List.append_assoc, List.getElem?_append_left place, ← blocks,
    emit_getElem? (dataBlocks_long row s) hx (by omega)]
  simp [dataBlocks, dataBlock, hx.trans_le (d1_le_len row k)]

/-- The codeword more of a block of group 2 (43_blocks.md R205). -/
theorem interleavedData_extra (s : State) {k : Nat} (group2 : P.b1 ≤ k) (hk : k < P.b1 + P.b2) :
    (s.interleavedData P)[P.d1 * (P.b1 + P.b2) + (k - P.b1)]? = some (s.readDataEntry (P.off k + P.d1)) := by
  have rounds := emit_length (dataBlocks_long row s)
  rw [dataBlocks_length] at rounds
  rw [interleavedData_eq row, List.append_assoc, List.getElem?_append_right (by omega), rounds, Nat.add_sub_cancel_left,
    List.getElem?_append_left (by simp; omega)]
  simp [show k - P.b1 < P.b2 by omega, show P.b1 + (k - P.b1) = k by omega]

/-- EC codeword `x` of block `k` (43_blocks.md R205). -/
theorem interleavedData_ec (s : State) {k x : Nat} (hk : k < P.b1 + P.b2) (hx : x < P.ec) :
    (s.interleavedData P)[P.tdata + x * (P.b1 + P.b2) + k]? = some ((ecwords (dataBlock s P k) P.ec).getD x 0) := by
  have blocks : ((dataBlocks s P).map fun b => ecwords b P.ec).length = P.b1 + P.b2 := by
    rw [List.length_map, dataBlocks_length]
  have data : (emit (dataBlocks s P) P.d1 ++
      (List.range P.b2).map (fun j => s.readDataEntry (P.off (P.b1 + j) + P.d1))).length = P.tdata := by
    rw [List.length_append, emit_length (dataBlocks_long row s), dataBlocks_length, List.length_map, List.length_range,
      tdata_eq row]
  rw [interleavedData_eq row, List.getElem?_append_right (by omega), data, Nat.add_assoc, Nat.add_sub_cancel_left, ← blocks,
    emit_getElem? (ecBlocks_long s P) hx (by omega)]
  simp [dataBlocks]

end

/-! ## `INTERLEAVE`, and the writer a soft reset abandons -/

theorem readCw_writeRun (s t : State) (l : List Byte) (cw : t.cw = s.cw.writeRun 0 l) (draw : t.powerOns = s.powerOns)
    (i : Nat) : t.readCw i = if i < l.length then l.getD i 0 else s.readCw i := by
  rw [State.readCw, cw, draw, Memory.read?_writeRun]
  simp only [Nat.zero_le, true_and, Nat.zero_add, Nat.sub_zero]
  split
  case isTrue h => rw [List.getD_eq_getElem?_getD, List.getElem?_eq_getElem h]; rfl
  case isFalse => rfl

/-- What `INTERLEAVE` leaves (43_blocks.md R207). -/
theorem exec_interleave {s : State} (legal : LegalVersion s) (count : s.dlen.toNat = (configTable s).tdata) :
    exec .interleave s =
      .next ((s.writeCwRun (s.interleavedData (configTable s))).writeBlk (configTable s).regs).complete :=
  exec_ok ((commandBody_interleave s).trans ((if_pos legal).trans (if_pos count)))

theorem readCw_exec_interleave {s u : State} (legal : LegalVersion s) (count : s.dlen.toNat = (configTable s).tdata)
    (completed : exec .interleave s = .next u) (i : Nat) :
    u.readCw i = if i < (s.interleavedData (configTable s)).length then (s.interleavedData (configTable s)).getD i 0
      else s.readCw i := by
  rw [exec_interleave legal count, Host.Outcome.next.injEq] at completed
  subst completed
  exact readCw_writeRun s ((s.writeCwRun (s.interleavedData (configTable s))).writeBlk (configTable s).regs).complete
    (s.interleavedData (configTable s)) rfl rfl i

/-- Settles O24: each part of the sequence stands where `interleavedData_eq` puts it, and its length is TCW. -/
theorem interleaveWritesEveryPlace : Obligations.InterleaveWritesEveryPlace := by
  intro s legal count P n
  have row : RowSpec P := configTable_spec legal
  have placed {i : Nat} {b : Byte} (h : (s.interleavedData P)[i]? = some b) :
      State.readCw ((s.writeCwRun (s.interleavedData P)).writeBlk P.regs).complete i = b := by
    obtain ⟨inside, rfl⟩ := List.getElem?_eq_some_iff.mp h
    rw [readCw_exec_interleave legal count (exec_interleave legal count), if_pos inside, List.getD_eq_getElem _ _ inside]
  refine ⟨_, exec_interleave legal count, rfl, fun k x hk hx => ?_, fun k group2 hk => ?_, fun k x hk hx => ?_,
    fun i past => ?_⟩
  · exact placed (interleavedData_data row s hk hx)
  · exact placed (interleavedData_extra row s group2 hk)
  · exact placed (interleavedData_ec row s hk hx)
  · rw [readCw_exec_interleave legal count (exec_interleave legal count), interleavedData_length row,
      if_neg (Nat.not_lt.mpr past)]

/-- An abandoned writer has either nothing to write or all of the interleaved sequence. -/
theorem pendingCw_cases (s : State) :
    s.pendingCw = [] ∨ (LegalVersion s ∧ s.pendingCw = s.interleavedData (configTable s)) := by
  unfold State.pendingCw
  split
  · exact .inl rfl
  · split
    · rw [State.cwToWrite, checkConfig_eq]
      split
      case isTrue legal =>
        rw [bind_ok, checkCount_eq]
        split
        · exact .inr ⟨legal, rfl⟩
        · exact .inl rfl
      case isFalse => exact .inl rfl
    · exact .inl rfl

theorem abandonedCw_length_le (s : State) : s.abandonedCw.length ≤ 4096 := by
  rw [State.abandonedCw, List.length_mapIdx]
  rcases pendingCw_cases s with none | ⟨legal, all⟩
  · rw [none]; exact Nat.zero_le _
  · rw [all, interleavedData_length (configTable_spec legal)]
    exact (configTable_spec legal).tcw_le.trans (by decide)

theorem pendingCw_of_writer {s : State} {i : Instr} (busy : s.status.busy = true) (decoded : decode s.cmd = .ok i)
    (writer : Instr.writesCw i = true) (legal : LegalVersion s) (count : s.dlen.toNat = (configTable s).tdata) :
    s.pendingCw = s.interleavedData (configTable s) := by
  have checked : s.cwToWrite = .ok (s.interleavedData (configTable s)) := by
    rw [State.cwToWrite, checkConfig_eq, if_pos legal, bind_ok, checkCount_eq, if_pos count]
    rfl
  simp [State.pendingCw, decoded, busy, writer, checked, Except.toOption]

/-- A soft reset leaves in `CW` the abandoned entries and, past them, the old ones. -/
theorem readCw_softReset (s : State) (i : Nat) :
    s.softReset.readCw i = if i < s.pendingCw.length then s.abandonedCw.getD i 0 else s.readCw i := by
  by_cases none : s.pendingCw = []
  · rw [State.softReset, if_pos none, none, if_neg (by simp)]; rfl
  · have cw : s.softReset.cw = s.cw.writeRun 0 s.abandonedCw := by rw [State.softReset, if_neg none]
    have draw : s.softReset.powerOns = s.powerOns := by rw [softReset_eq]
    rw [readCw_writeRun s s.softReset s.abandonedCw cw draw, State.abandonedCw, List.length_mapIdx]

theorem abandonedCw_getD {s : State} {i : Nat} (h : i < s.pendingCw.length) :
    s.abandonedCw.getD i 0 = s.readCw i ∨ s.abandonedCw.getD i 0 = s.pendingCw.getD i 0 := by
  rw [List.getD_eq_getElem _ _ h, List.getD_eq_getElem _ _ (by rwa [State.abandonedCw, List.length_mapIdx])]
  simp only [State.abandonedCw, List.getElem_mapIdx]
  split
  · exact .inr rfl
  · exact .inl rfl

/-- Settles O55: the abandoned entries are a choice, entry by entry, between old and new. -/
theorem abandonedWriterMixesOldAndNew : Obligations.AbandonedWriterMixesOldAndNew := by
  intro s u v srst busy writer legal count completed t
  have pending : s.pendingCw = s.interleavedData (configTable s) := by
    rcases writer with decoded | decoded
    · exact pendingCw_of_writer busy decoded rfl legal count
    · exact pendingCw_of_writer busy decoded rfl legal count
  have length : s.pendingCw.length = (configTable s).tcw := by
    rw [pending, interleavedData_length (configTable_spec legal)]
  have reset : t = s.softReset := busWrite_ctrl_srst s srst
  rw [reset]
  refine ⟨fun i inside => ?_, fun i past => ?_, ?_⟩
  · rw [readCw_softReset, if_pos (length ▸ inside), readCw_exec_interleave legal count completed, ← pending,
      if_pos (length ▸ inside)]
    exact abandonedCw_getD (length ▸ inside)
  · rw [readCw_softReset, if_neg (by omega)]
  · rw [softReset_eq]

theorem writeRun_interleavedData_wf {s : State} (legal : LegalVersion s) (h : s.cw.wf) :
    (s.cw.writeRun 0 (s.interleavedData (configTable s))).wf := by
  have row := configTable_spec legal
  have inside : 0 + (s.interleavedData (configTable s)).length ≤ Config.memEntries := by
    rw [Nat.zero_add, interleavedData_length row]
    exact row.tcw_le.trans (by decide)
  exact Memory.writeRun_wf h inside

/-- An effect writes `CW` inside the memory. -/
theorem Effect.memoryOk {i : Instr} {s u : State} (effect : Effect s u i) (h : s.MemoryOk) : u.MemoryOk := by
  obtain ⟨hdata, hcw⟩ := h
  refine ⟨by rw [effect.keeps.data]; exact hdata, ?_⟩
  by_cases cw : u.cw = s.cw
  · rw [cw]; exact hcw
  rcases effect.writesOnlyTargets.1 cw with rfl | rfl
  case inl =>
    obtain ⟨legal, -, rfl⟩ := effect
    exact writeRun_interleavedData_wf legal hcw
  case inr =>
    obtain ⟨legal, -, rfl⟩ := effect
    obtain ⟨mask, pen, ints, darks, final⟩ := final_eq
      ((s.writeCwRun (s.interleavedData (configTable s))).writeBlk (configTable s).regs) (configTable s)
    rw [final]
    exact writeRun_interleavedData_wf legal hcw

/-- Settles O56: every move that writes a memory writes inside it. -/
theorem stepKeepsMemoryCanonical : Obligations.StepKeepsMemoryCanonical := by
  intro s t
  refine keeps_of_moves (p := State.MemoryOk) (fun _ _ h => h) (keeps_busRead (fun _ _ h => h) fun _ h => h)
    (keeps_busWrite (fun _ h => h) (fun s h => ?_) (fun _ _ h => h) (fun _ v h => ?_) (fun _ _ h _ _ => h) (fun _ h => h)
      (fun _ _ _ _ _ _ _ _ h => h) (fun _ _ _ inside h => ⟨Memory.write_wf h.1 inside, h.2⟩)
      (fun _ _ _ inside h => ⟨h.1, Memory.write_wf h.2 inside⟩)) (fun _ _ => reset_memories_wf)
    (fun s i u h _ _ effect => effect.memoryOk h) (fun _ _ h _ => h)
  · rcases softReset_cases s with reset | reset
    · rw [reset]; exact h
    · rw [reset]
      exact ⟨h.1, Memory.writeRun_wf h.2 (by rw [Nat.zero_add]; exact abandonedCw_length_le s)⟩
  · rw [writeStatus_eq]; exact h

end Sys2Proof.Machine

end

section
/-! The penalty rules as sums and counts over all cells (45_mask.md §1), and the choice of the first minimal total (§2). -/

namespace Sys2Proof.Machine

open Sys2Proof.Spec

/-- The cells of an `n x n` matrix. -/
abbrev square (n : Nat) : Finset (Nat × Nat) := (Finset.range n).product (Finset.range n)

theorem mem_square {n : Nat} {c : Nat × Nat} : c ∈ square n ↔ c.1 < n ∧ c.2 < n := by
  rw [square, Finset.product_eq_sprod, Finset.mem_product, Finset.mem_range, Finset.mem_range]

/-! ## The cells as a list and as a set -/

theorem mem_cellsOf {n : Nat} {c : Nat × Nat} : c ∈ cellsOf n ↔ c.1 < n ∧ c.2 < n := by
  obtain ⟨x, y⟩ := c
  simp [cellsOf, and_comm]

theorem pairs_nodup {xs ys : List Nat} (xsNodup : xs.Nodup) (ysNodup : ys.Nodup) :
    (ys.flatMap fun y => xs.map fun x => (x, y)).Nodup := by
  rw [List.nodup_flatMap]
  refine ⟨fun y _ => xsNodup.map fun a b h => congrArg Prod.fst h, List.Pairwise.imp ?_ ysNodup⟩
  intro y z different
  rw [Function.onFun, List.disjoint_left]
  intro c inRowY inRowZ
  obtain ⟨_, -, hy⟩ := List.mem_map.mp inRowY
  obtain ⟨_, -, hz⟩ := List.mem_map.mp inRowZ
  exact different (congrArg Prod.snd (hy.trans hz.symm))

theorem cellsOf_nodup (n : Nat) : (cellsOf n).Nodup := pairs_nodup List.nodup_range List.nodup_range

theorem cellsOf_toFinset (n : Nat) : (cellsOf n).toFinset = square n := by
  ext c
  rw [List.mem_toFinset, mem_cellsOf, mem_square]

theorem sum_cellsOf (n : Nat) (f : Nat × Nat → Nat) : ((cellsOf n).map f).sum = ∑ c ∈ square n, f c := by
  rw [← cellsOf_toFinset, List.sum_toFinset f (cellsOf_nodup n)]

theorem countP_eq_card {α : Type} [DecidableEq α] {l : List α} (nodup : l.Nodup) (p : α → Bool) :
    l.countP p = (l.toFinset.filter fun a => p a = true).card := by
  rw [List.countP_eq_length_filter, ← List.toFinset_card_of_nodup (nodup.filter p), List.toFinset_filter]

theorem countP_cellsOf (n : Nat) (p : Nat × Nat → Bool) : (cellsOf n).countP p = ((square n).filter fun c => p c = true).card := by
  rw [countP_eq_card (cellsOf_nodup n), cellsOf_toFinset]

theorem sum_map_range (n : Nat) (f : Nat → Nat) : ((List.range n).map f).sum = ∑ i ∈ Finset.range n, f i := by
  rw [← List.toFinset_range, List.sum_toFinset f List.nodup_range]

theorem colours_at (g : Grid) (x y : Nat) : g.colours.at x y = dark g x y := by
  rw [Colours.at, dark, Grid.at, Grid.colours, show ([] : List Bool) = ([] : List Cell).map Cell.dark from rfl, List.getD_map,
    show false = emptyCell.dark from rfl, List.getD_map]

/-! ## Rule 1 -/

theorem mem_offsets3 (o : Nat × Nat) : o ∈ offsets3 ↔ o.1 ≤ 2 ∧ o.2 ≤ 2 := by
  obtain ⟨dx, dy⟩ := o
  simp only [offsets3, List.mem_cons, Prod.mk.injEq, List.not_mem_nil, or_false]
  constructor <;> omega

/-- The test of one offset: not the centre, inside the matrix, of the same colour. -/
theorem offset_test (g : Grid) (n x y : Nat) (o : Nat × Nat) :
    ((Config.policy.rule1Self || o != (1, 1)) && 1 ≤ x + o.1 && x + o.1 - 1 < n && 1 ≤ y + o.2 && y + o.2 - 1 < n &&
        g.colours.at (x + o.1 - 1) (y + o.2 - 1) == g.colours.at x y) = true ↔
      o ≠ (1, 1) ∧ 1 ≤ x + o.1 ∧ x + o.1 - 1 < n ∧ 1 ≤ y + o.2 ∧ y + o.2 - 1 < n ∧
        dark g (x + o.1 - 1) (y + o.2 - 1) = dark g x y := by
  simp only [Config.policy, Bool.false_or, Bool.and_eq_true, bne_iff_ne, decide_eq_true_eq, beq_iff_eq, colours_at, and_assoc]

/-- The neighbours are found by offset in the model, by position in the rule. -/
theorem sameNeighbours_eq (g : Grid) (n x y : Nat) :
    sameNeighbours Config.policy g.colours n x y = neighbours g n x y := by
  rw [sameNeighbours, countP_eq_card (by decide), neighbours]
  simp only [offset_test]
  apply Finset.card_bij' (fun o _ => (x + o.1 - 1, y + o.2 - 1)) (fun c _ => (c.1 + 1 - x, c.2 + 1 - y))
  all_goals
    rintro ⟨a, b⟩ h
    simp only [Finset.mem_filter, List.mem_toFinset, mem_offsets3, mem_square, ne_eq, Prod.mk.injEq] at h ⊢
  case hi =>
    obtain ⟨small, other, left, inX, up, inY, same⟩ := h
    exact ⟨⟨inX, inY⟩, by omega, by omega, by omega, by omega, by omega, same⟩
  case hj =>
    obtain ⟨inside, other, left, right, up, down, same⟩ := h
    rw [show x + (a + 1 - x) - 1 = a by omega, show y + (b + 1 - y) - 1 = b by omega]
    exact ⟨by omega, by omega, by omega, inside.1, by omega, inside.2, same⟩
  case left_inv => omega
  case right_inv => omega

theorem penalty1_eq (g : Grid) (n : Nat) : penalty1 Config.policy g.colours n = ruleOne g n := by
  rw [penalty1, sum_cellsOf, ruleOne]
  refine Finset.sum_congr rfl fun c _ => ?_
  rw [rule1At, sameNeighbours_eq]
  by_cases many : 5 < neighbours g n c.1 c.2
  · rw [if_pos many, if_pos many]; omega
  · rw [if_neg many, if_neg many]

/-! ## Rule 2 -/

theorem penalty2_eq (g : Grid) (n : Nat) : penalty2 g.colours n = ruleTwo g n := by
  rw [penalty2, countP_cellsOf, ruleTwo]
  congr 2
  ext c
  simp only [Finset.mem_filter, mem_square, uniform2, colours_at, Bool.and_eq_true, beq_iff_eq, and_assoc]
  constructor
  · rintro ⟨hx, hy, same⟩
    exact ⟨by omega, by omega, by omega, by omega, same⟩
  · rintro ⟨-, -, hx, hy, same⟩
    exact ⟨by omega, by omega, same⟩

/-! ## Rule 3 -/

/-- Every start position of a line is looked at once. -/
theorem occurrences_eq (l : List Bool) :
    occurrences l = (List.range l.length).countP fun i => (l.drop i).take 7 = finderLike := by
  induction l with
  | nil => rfl
  | cons b bs ih =>
    rw [occurrences, ih, List.length_cons, List.range_succ_eq_map, List.countP_cons, List.countP_map, Nat.add_comm]
    simp [Function.comp_def]
    rfl

theorem finderLike_eq : finderLike = (List.range 7).map patternBit := by decide

/-- `Q` stands at position `i` of a line. -/
theorem take_drop_eq_finderLike (f : Nat → Bool) (n i : Nat) :
    ((((List.range n).map f).drop i).take 7 = finderLike) ↔ i + 7 ≤ n ∧ ∀ k ∈ Finset.range 7, f (i + k) = patternBit k := by
  rw [finderLike_eq]
  constructor
  · intro h
    have inside : i + 7 ≤ n := by
      have := congrArg List.length h
      simp at this
      omega
    refine ⟨inside, fun k hk => ?_⟩
    have hk := Finset.mem_range.mp hk
    have := congrArg (fun l => l[k]?) h
    simpa [List.getElem?_take, hk, show i + k < n by omega] using this
  · rintro ⟨inside, same⟩
    apply List.ext_getElem (by simp; omega)
    intro k _ hk
    have hk : k < 7 := by simpa using hk
    simpa using same k (Finset.mem_range.mpr hk)

theorem occurrences_line (f : Nat → Bool) (n : Nat) :
    occurrences ((List.range n).map f) =
      ∑ i ∈ Finset.range n, if i + 7 ≤ n ∧ ∀ k ∈ Finset.range 7, f (i + k) = patternBit k then 1 else 0 := by
  rw [occurrences_eq, countP_eq_card List.nodup_range, List.toFinset_range, List.length_map, List.length_range, ← Finset.card_filter]
  simp only [decide_eq_true_eq, take_drop_eq_finderLike]

theorem penalty3_eq (g : Grid) (n : Nat) : penalty3 g.colours n = ruleThree g n := by
  rw [penalty3, ruleThree, sum_map_range, sum_map_range, Finset.card_filter, Finset.card_filter, Finset.product_eq_sprod,
    Finset.sum_product_right, Finset.sum_product]
  simp only [rowOf, colOf, occurrences_line, colours_at]

/-! ## Rule 4, and the five registers -/

theorem darkCount_eq (g : Grid) (n : Nat) : darkCount g.colours n = darkCells g n := by
  simp only [darkCount, countP_cellsOf, darkCells, colours_at]

theorem rule4Num_eq (d n : Nat) : rule4Num d n = ruleFourNum d n := by
  rw [rule4Num, ruleFourNum]
  omega

theorem score_eq (g : Grid) (n : Nat) :
    score Config.policy g.colours n =
      { p1 := ruleOne g n, p2 := ruleTwo g n, p3 := ruleThree g n, dark := darkCells g n
        r4num := ruleFourNum (darkCells g n) n } := by
  rw [score, penalty1_eq, penalty2_eq, penalty3_eq, darkCount_eq, rule4Num_eq]

theorem score_regs (g : Grid) (n : Nat) : (score Config.policy g.colours n).regs = penOf g n := by
  rw [score_eq]; rfl

/-- Settles O34: the model's scores are the rules' (`score_eq`). -/
theorem maskScoreWritesThePenalties : Obligations.MaskScoreWritesThePenalties := by
  intro s
  refine ⟨fun valid => ?_, fun invalid => ?_⟩
  · rw [exec_ok ((commandBody_maskScore s).trans (if_pos valid)), score_regs]
    rfl
  · exact exec_error ((commandBody_maskScore s).trans (if_neg (by simp [invalid])))

/-! ## The selection (45_mask.md R286) -/

/-- `best` is the first of the `n` values at which `f` is minimal. -/
def FirstMin (f : Nat → Nat) (n best : Nat) : Prop := best < n ∧ (∀ p < n, f best ≤ f p) ∧ ∀ p < best, f best < f p

theorem FirstMin.selectFrom {f : Nat → Nat} {p best : Nat} (h : FirstMin f p best) (m : Nat) :
    FirstMin f (p + m) (selectFrom best (f best) p ((List.range' p m).map f)) := by
  obtain ⟨inside, least, first⟩ := h
  induction m generalizing p best with
  | zero => exact ⟨inside, least, first⟩
  | succ m ih =>
    rw [List.range'_succ, List.map_cons, Machine.selectFrom, Nat.add_comm m 1, ← Nat.add_assoc]
    split
    case isTrue less =>
      refine ih (Nat.lt_succ_self p) (fun q hq => ?_) fun q hq => less.trans_le (least q hq)
      rcases Nat.lt_succ_iff_lt_or_eq.mp hq with before | rfl
      · exact less.le.trans (least q before)
      · exact le_rfl
    case isFalse more =>
      refine ih (Nat.lt_succ_of_lt inside) (fun q hq => ?_) first
      rcases Nat.lt_succ_iff_lt_or_eq.mp hq with before | rfl
      · exact least q before
      · exact Nat.not_lt.mp more

theorem select_firstMin (f : Nat → Nat) (n : Nat) : FirstMin f (1 + n) (select ((List.range (1 + n)).map f)) := by
  have start : FirstMin f 1 0 := ⟨Nat.zero_lt_one, fun p hp => by rw [Nat.lt_one_iff.mp hp], nofun⟩
  rw [List.range_eq_range', Nat.add_comm 1 n, List.range'_succ, List.map_cons, select, Nat.add_comm n 1]
  exact start.selectFrom n

/-! ## The candidates -/

/-- The scores of the eight candidates (45_mask.md R289). -/
def scoresOf (s : State) : List Score :=
  (List.range 8).map fun p => score Config.policy (matrixOf s p).cells.colours (4 * s.cfgVersion.toNat + 17)

theorem candidateScores_eq (s : State) :
    candidateScores Config.policy s.version s.level (s.prefixOf .cw (configTable s).tcw) = scoresOf s := by
  simp only [scoresOf, matrixOf_eq]
  rfl

theorem scoresOf_getD (s : State) {p : Nat} (hp : p < 8) :
    (scoresOf s).getD p noScore = score Config.policy (matrixOf s p).cells.colours (4 * s.cfgVersion.toNat + 17) := by
  rw [scoresOf, List.getD_eq_getElem _ _ (by simpa using hp), List.getElem_map, List.getElem_range]

theorem scoresOf_scaled (s : State) :
    ((scoresOf s).map fun c => c.scaled (moduleCount s.version)) =
      (List.range 8).map fun p => scaledTotal (matrixOf s p).cells (4 * s.cfgVersion.toNat + 17) := by
  rw [scoresOf, List.map_map]
  exact List.map_congr_left fun p _ => by rw [Function.comp_apply, score_eq]; rfl

theorem candRegs_getElem (f : Score → Nat) (cs : List Score) (p : Fin 8) :
    (candRegs f cs)[p] = wordOf (f (cs.getD p noScore)) := by
  fin_cases p <;> rfl

/-- What the automatic choice writes (45_mask.md R289). -/
theorem finalAuto_eq (s : State) {best : Nat} (inside : best < 8)
    (selected : select ((List.range 8).map fun p => scaledTotal (matrixOf s p).cells (4 * s.cfgVersion.toNat + 17)) = best) :
    s.finalAuto (configTable s) =
      ((((s.writeMtx (matrixOf s best)).writeSelMask (wordOf best)).writeBlk (configTable s).regs).writeCands
        (candRegs Score.intPart (scoresOf s)) (candRegs Score.dark (scoresOf s))).writePen
        (penOf (matrixOf s best).cells (4 * s.cfgVersion.toNat + 17)) := by
  rw [State.finalAuto]
  simp only [candidateScores_eq, scoresOf_scaled, selected]
  rw [scoresOf_getD s inside, score_regs, State.finalWith, ← matrixOf_eq]

theorem finalWrites_complete (s : State) (m : Mtx) (mask : Word) (blk : Blk) (ints darks : Vector Word 8) (pen : Pen) :
    (((((s.writeMtx m).writeSelMask mask).writeBlk blk).writeCands ints darks).writePen pen).complete =
      { s with mtx := m, selMask := mask, blk := blk, pen := pen, candInt := ints, candDark := darks
               status := doneStatus s.status } := by
  simp only [State.complete, State.writePen, State.writeCands, State.writeBlk, State.writeSelMask, State.writeMtx]

/-- Settles O36: the model's totals are the rules' (`score_eq`), and `select` takes the first least of them. -/
theorem mtxFinalSelectsTheFirstMinimum : Obligations.MtxFinalSelectsTheFirstMinimum := by
  intro s legal auto N cand
  obtain ⟨best, selected⟩ : ∃ best, select ((List.range 8).map fun p => scaledTotal (cand p) N) = best := ⟨_, rfl⟩
  obtain ⟨inside, least, first⟩ : FirstMin (fun p => scaledTotal (cand p) N) 8 best := selected ▸ select_firstMin _ 7
  have final : s.final (configTable s) = s.finalAuto (configTable s) := if_pos auto
  refine ⟨best, inside, least, first, _, exec_ok ((commandBody_mtxFinal s).trans (if_pos legal)), ?_, fun p => ?_⟩
  · rw [final, finalAuto_eq s inside selected, finalWrites_complete, BlockParams.regs]
  · rw [final, finalAuto_eq s inside selected, finalWrites_complete]
    have candInt : (candRegs Score.intPart (scoresOf s))[p] =
        wordOf (ruleOne (cand p) N + ruleTwo (cand p) N + ruleThree (cand p) N) := by
      rw [candRegs_getElem, scoresOf_getD s p.isLt, score_eq]; rfl
    have candDark : (candRegs Score.dark (scoresOf s))[p] = wordOf (darkCells (cand p) N) := by
      rw [candRegs_getElem, scoresOf_getD s p.isLt, score_eq]
    exact ⟨candInt, candDark⟩

end Sys2Proof.Machine

end

section
/-! The function patterns of a matrix (44_matrix.md §2): all puts of steps 1 to 7 as one list, what the first put at a cell writes,
and which cells each step covers. -/

namespace Sys2Proof.Machine

open Sys2Proof.Spec

/-! ## The first put at a cell -/

/-- The cell a put writes (44_matrix.md R232). -/
def Put.cell (p : Put) : Cell := { type := p.type, dark := p.dark }

/-- What the first put at `(x, y)` writes. -/
def cellIn (ps : List Put) (x y : Nat) : Option Cell := (ps.find? fun p => p.x == x && p.y == y).map Put.cell

/-- Some put is at `(x, y)`. -/
def Covers (ps : List Put) (x y : Nat) : Prop := ∃ p ∈ ps, p.x = x ∧ p.y = y

theorem cellIn_eq_none {ps : List Put} {x y : Nat} : cellIn ps x y = none ↔ ¬ Covers ps x y := by
  simp [cellIn, Covers]

theorem cellIn_eq_some {ps : List Put} {x y : Nat} {c : Cell} (covers : Covers ps x y)
    (agree : ∀ p ∈ ps, p.x = x → p.y = y → p.cell = c) : cellIn ps x y = some c := by
  obtain ⟨c', found⟩ := Option.ne_none_iff_exists'.mp (mt cellIn_eq_none.mp (not_not.mpr covers))
  obtain ⟨p, first, rfl⟩ := Option.map_eq_some_iff.mp found
  have here := List.find?_some first
  simp only [Bool.and_eq_true, beq_iff_eq] at here
  rw [found, agree p (List.mem_of_find?_eq_some first) here.1 here.2]

/-- What `cellIn` finds is a put's. -/
theorem exists_put_of_cellIn {ps : List Put} {x y : Nat} {c : Cell} (h : cellIn ps x y = some c) : ∃ p ∈ ps, p.cell = c := by
  obtain ⟨p, first, rfl⟩ := Option.map_eq_some_iff.mp h
  exact ⟨p, List.mem_of_find?_eq_some first, rfl⟩

theorem covers_append {ps qs : List Put} {x y : Nat} : Covers (ps ++ qs) x y ↔ Covers ps x y ∨ Covers qs x y := by
  simp only [Covers, List.mem_append, or_and_right, exists_or]

theorem cellIn_append (ps qs : List Put) (x y : Nat) : cellIn (ps ++ qs) x y = (cellIn ps x y).or (cellIn qs x y) := by
  rw [cellIn, List.find?_append, Option.map_or]; rfl

theorem cellIn_append_of_some {ps : List Put} {x y : Nat} {c : Cell} (h : cellIn ps x y = some c) (qs : List Put) :
    cellIn (ps ++ qs) x y = some c := by
  rw [cellIn_append, h]; rfl

theorem cellIn_append_of_not_covers {ps : List Put} {x y : Nat} (h : ¬ Covers ps x y) (qs : List Put) :
    cellIn (ps ++ qs) x y = cellIn qs x y := by
  rw [cellIn_append, cellIn_eq_none.mpr h]; rfl

theorem inside_of_rowLengths {g g' : Grid} {x y : Nat} (same : g'.map List.length = g.map List.length) (h : g.Inside x y) :
    g'.Inside x y := by
  obtain ⟨row, hrow, hx⟩ := h
  have length := congrArg (·[y]?) same
  simp only [List.getElem?_map, hrow, Option.map_some] at length
  obtain ⟨row', hrow', rowLength⟩ := Option.map_eq_some_iff.mp length
  exact ⟨row', hrow', rowLength ▸ hx⟩

theorem at_put_other (g : Grid) (p : Put) {x y : Nat} (h : ¬ (x = p.x ∧ y = p.y)) : (g.put p).at x y = g.at x y := by
  rw [Grid.put]
  split
  · exact at_store_other g _ h
  · rfl

/-- A cell inside an empty place of the grid takes what the first put at it writes (44_matrix.md R232). -/
theorem at_putAll {g : Grid} {x y : Nat} (inside : g.Inside x y) (empty : (g.at x y).type = .empty) {ps : List Put}
    (typed : ∀ p ∈ ps, p.type ≠ .empty) : (g.putAll ps).at x y = (cellIn ps x y).getD (g.at x y) := by
  induction ps generalizing g with
  | nil => rfl
  | cons p ps ih =>
    obtain ⟨pTyped, psTyped⟩ := List.forall_mem_cons.mp typed
    have cons : g.putAll (p :: ps) = (g.put p).putAll ps := rfl
    rw [cons]
    by_cases here : x = p.x ∧ y = p.y
    · obtain ⟨rfl, rfl⟩ := here
      have put : (g.put p).at p.x p.y = p.cell := by rw [Grid.put, if_pos empty]; exact at_store_same _ inside
      rw [at_putAll_of_set _ _ (by rw [put]; exact pTyped), put]
      simp [cellIn]
    · have put := at_put_other g p here
      rw [ih (inside_of_rowLengths (put_rowLengths g p) inside) (by rw [put]; exact empty) psTyped, put,
        ← List.singleton_append, cellIn_append_of_not_covers]
      rintro ⟨q, mem, rfl, rfl⟩
      exact here (List.mem_singleton.mp mem ▸ ⟨rfl, rfl⟩)

/-- Puts elsewhere leave a cell. -/
theorem at_putAll_of_not_covers {g : Grid} {ps : List Put} {x y : Nat} (h : ¬ Covers ps x y) :
    (g.putAll ps).at x y = g.at x y := by
  induction ps generalizing g with
  | nil => rfl
  | cons p ps ih =>
    rw [← List.singleton_append, covers_append, not_or] at h
    obtain ⟨other, rest⟩ := h
    have cons : g.putAll (p :: ps) = (g.put p).putAll ps := rfl
    rw [cons, ih rest, at_put_other g p fun here => other ⟨p, List.mem_singleton_self p, here.1.symm, here.2.symm⟩]

theorem at_clearGrid (n x y : Nat) : (clearGrid n).at x y = emptyCell := by
  simp only [Grid.at, clearGrid, List.getD_eq_getElem?_getD, List.getElem?_replicate]
  split
  · rw [Option.getD_some, List.getElem?_replicate]; split <;> rfl
  · rfl

theorem clearGrid_inside {n x y : Nat} (hx : x < n) (hy : y < n) : (clearGrid n).Inside x y :=
  ⟨List.replicate n emptyCell, by simp [clearGrid, hy], by simpa using hx⟩

theorem at_clearGrid_putAll {n x y : Nat} (hx : x < n) (hy : y < n) {ps : List Put} (typed : ∀ p ∈ ps, p.type ≠ .empty) :
    ((clearGrid n).putAll ps).at x y = (cellIn ps x y).getD emptyCell := by
  rw [at_putAll (clearGrid_inside hx hy) (by rw [at_clearGrid]; rfl) typed, at_clearGrid]

theorem putAll_append (g : Grid) (ps qs : List Put) : (g.putAll ps).putAll qs = g.putAll (ps ++ qs) :=
  (List.foldl_append ..).symm

/-! ## The cells each step covers -/

theorem covers_finderAt {ox oy x y : Nat} :
    Covers (finderAt ox oy) x y ↔ ox ≤ x ∧ x < ox + 7 ∧ oy ≤ y ∧ y < oy + 7 := by
  simp only [Covers, finderAt, List.mem_flatMap, List.mem_map, List.mem_range]
  constructor
  · rintro ⟨_, ⟨dx, hdx, dy, hdy, rfl⟩, rfl, rfl⟩
    dsimp only
    omega
  · rintro ⟨left, right, up, down⟩
    exact ⟨_, ⟨x - ox, by omega, y - oy, by omega, rfl⟩, by dsimp only; omega, by dsimp only; omega⟩

theorem covers_finderPuts {n x y : Nat} :
    Covers (finderPuts n) x y ↔
      (x < 7 ∧ y < 7) ∨ (n - 7 ≤ x ∧ x < n - 7 + 7 ∧ y < 7) ∨ (x < 7 ∧ n - 7 ≤ y ∧ y < n - 7 + 7) := by
  simp only [finderPuts, covers_append, covers_finderAt]
  omega

theorem covers_separatorPuts {n x y : Nat} (big : 21 ≤ n) :
    Covers (separatorPuts n) x y ↔
      (x = 7 ∧ y < 8) ∨ (x < 8 ∧ y = 7) ∨ (x = n - 8 ∧ y < 8) ∨ (n - 8 ≤ x ∧ x < n ∧ y = 7) ∨
        (x = 7 ∧ n - 8 ≤ y ∧ y < n) ∨ (x < 8 ∧ y = n - 8) := by
  simp only [Covers, separatorPuts, separatorAt, List.mem_flatMap, List.mem_range, List.mem_cons, List.not_mem_nil, or_false]
  constructor
  · rintro ⟨_, ⟨i, hi, rfl | rfl | rfl | rfl | rfl | rfl⟩, rfl, rfl⟩ <;> dsimp only <;> omega
  · rintro (⟨rfl, h⟩ | ⟨h, rfl⟩ | ⟨rfl, h⟩ | ⟨h, h', rfl⟩ | ⟨rfl, h, h'⟩ | ⟨h, rfl⟩)
    · exact ⟨_, ⟨y, h, .inl rfl⟩, rfl, rfl⟩
    · exact ⟨_, ⟨x, h, .inr (.inl rfl)⟩, rfl, rfl⟩
    · exact ⟨_, ⟨y, h, .inr (.inr (.inl rfl))⟩, rfl, rfl⟩
    · exact ⟨_, ⟨n - 1 - x, by omega, .inr (.inr (.inr (.inl rfl)))⟩, by dsimp only; omega, rfl⟩
    · exact ⟨_, ⟨n - 1 - y, by omega, .inr (.inr (.inr (.inr (.inl rfl))))⟩, rfl, by dsimp only; omega⟩
    · exact ⟨_, ⟨x, h, .inr (.inr (.inr (.inr (.inr rfl))))⟩, rfl, rfl⟩

theorem covers_alignmentPuts {cx cy x y : Nat} (hx : 2 ≤ cx) (hy : 2 ≤ cy) :
    Covers (alignmentPuts cx cy) x y ↔ cx ≤ x + 2 ∧ x ≤ cx + 2 ∧ cy ≤ y + 2 ∧ y ≤ cy + 2 := by
  simp only [Covers, alignmentPuts, List.mem_flatMap, List.mem_map, List.mem_range]
  constructor
  · rintro ⟨_, ⟨i, hi, j, hj, rfl⟩, rfl, rfl⟩
    dsimp only
    omega
  · rintro ⟨left, right, up, down⟩
    exact ⟨_, ⟨y + 2 - cy, by omega, x + 2 - cx, by omega, rfl⟩, by dsimp only; omega, by dsimp only; omega⟩

theorem covers_timingPuts {n x y : Nat} :
    Covers (timingPuts n) x y ↔ (x = 6 ∧ 8 ≤ y ∧ y < 8 + (n - 16)) ∨ (y = 6 ∧ 8 ≤ x ∧ x < 8 + (n - 16)) := by
  simp only [Covers, timingPuts, List.mem_flatMap, List.mem_range'_1, List.mem_cons, List.not_mem_nil, or_false]
  constructor
  · rintro ⟨_, ⟨i, hi, rfl | rfl⟩, rfl, rfl⟩
    · exact .inl ⟨rfl, hi⟩
    · exact .inr ⟨rfl, hi⟩
  · rintro (⟨rfl, h⟩ | ⟨rfl, h⟩)
    · exact ⟨_, ⟨y, h, .inl rfl⟩, rfl, rfl⟩
    · exact ⟨_, ⟨x, h, .inr rfl⟩, rfl, rfl⟩

theorem covers_darkModulePut {v x y : Nat} : Covers [darkModulePut v] x y ↔ x = 8 ∧ y = 4 * v + 9 := by
  simp [Covers, darkModulePut, eq_comm]

theorem covers_versionPuts {v x y : Nat} :
    Covers (versionPuts v) x y ↔
      7 ≤ v ∧ ((4 * v + 6 ≤ x ∧ x < 4 * v + 9 ∧ y < 6) ∨ (x < 6 ∧ 4 * v + 6 ≤ y ∧ y < 4 * v + 9)) := by
  unfold versionPuts
  split
  case isTrue old => simp [Covers]; omega
  case isFalse new =>
    simp only [Covers, moduleCount, List.mem_flatMap, List.mem_range, List.mem_cons, List.not_mem_nil, or_false]
    constructor
    · rintro ⟨_, ⟨i, hi, rfl | rfl⟩, rfl, rfl⟩ <;> dsimp only <;> omega
    · rintro ⟨-, ⟨h, h', h''⟩ | ⟨h, h', h''⟩⟩
      · exact ⟨_, ⟨3 * y + (x - (4 * v + 6)), by omega, .inl rfl⟩, by dsimp only; omega, by dsimp only; omega⟩
      · exact ⟨_, ⟨3 * x + (y - (4 * v + 6)), by omega, .inr rfl⟩, by dsimp only; omega, by dsimp only; omega⟩

theorem covers_formatPuts {n x y : Nat} (e : Ecc) (p : Nat) (big : 21 ≤ n) :
    Covers (formatPuts n e p) x y ↔
      (x = 8 ∧ (y ≤ 5 ∨ y = 7 ∨ y = 8 ∨ (n - 7 ≤ y ∧ y < n))) ∨
        (y = 8 ∧ (x ≤ 5 ∨ x = 7 ∨ (n - 8 ≤ x ∧ x < n))) := by
  simp only [Covers, formatPuts, formatRowA, formatColB, List.mem_flatMap, List.mem_range, List.mem_cons, List.not_mem_nil,
    or_false]
  constructor
  · rintro ⟨_, ⟨i, hi, rfl | rfl⟩, rfl, rfl⟩ <;> dsimp only <;> split_ifs <;> omega
  · rintro (⟨rfl, h⟩ | ⟨rfl, h⟩)
    · refine ⟨_, ⟨if y ≤ 5 then y else if y ≤ 8 then y - 1 else y + 15 - n, ?bit, .inl rfl⟩, rfl, ?row⟩
      case bit => split_ifs <;> omega
      case row => dsimp only; split_ifs <;> omega
    · refine ⟨_, ⟨if x ≤ 5 then 14 - x else if x = 7 then 8 else n - 1 - x, ?bit, .inr rfl⟩, ?column, rfl⟩
      case bit => split_ifs <;> omega
      case column => dsimp only; split_ifs <;> omega

/-! ## The alignment patterns -/

/-- Where a coordinate of the table lies: first, last, or well between. -/
abbrev OnTable (v c : Nat) : Prop := c = 6 ∨ (18 ≤ c ∧ (c = 4 * v + 10 ∨ c + 12 ≤ 4 * v + 10))

/-- What the table of centres keeps to (44_matrix.md R236). -/
structure CentreSpec (v : Nat) : Prop where
  place : ∀ c ∈ alignmentAt v, OnTable v c
  apart : ∀ c ∈ alignmentAt v, ∀ d ∈ alignmentAt v, c < d → c + 12 ≤ d
  nodup : (alignmentAt v).Nodup
  count : 2 ≤ v → 6 ∈ alignmentAt v ∧ 4 * v + 10 ∈ alignmentAt v ∧ (alignmentAt v).length = v / 7 + 2

theorem centreSpec {v : Nat} (low : 1 ≤ v) (high : v ≤ 40) : CentreSpec v := by
  have rows : ∀ w < 40, (∀ c ∈ alignmentAt (w + 1), OnTable (w + 1) c) ∧
      (∀ c ∈ alignmentAt (w + 1), ∀ d ∈ alignmentAt (w + 1), c < d → c + 12 ≤ d) ∧ (alignmentAt (w + 1)).Nodup ∧
      (2 ≤ w + 1 → 6 ∈ alignmentAt (w + 1) ∧ 4 * (w + 1) + 10 ∈ alignmentAt (w + 1) ∧
        (alignmentAt (w + 1)).length = (w + 1) / 7 + 2) := by decide +kernel
  obtain ⟨w, rfl⟩ : ∃ w, v = w + 1 := ⟨v - 1, by omega⟩
  obtain ⟨place, apart, nodup, count⟩ := rows w (by omega)
  exact ⟨place, apart, nodup, count⟩

/-- A centre that a finder occupies (44_matrix.md R237). -/
abbrev AtFinder (v : Nat) (c : Nat × Nat) : Prop :=
  (c.1 = 6 ∧ c.2 = 6) ∨ (c.1 = 4 * v + 10 ∧ c.2 = 6) ∨ (c.1 = 6 ∧ c.2 = 4 * v + 10)

/-- The alignment pattern centred at `c` covers `(x, y)` (44_matrix.md R237). -/
abbrev Near (c : Nat × Nat) (x y : Nat) : Prop := c.1 ≤ x + 2 ∧ x ≤ c.1 + 2 ∧ c.2 ≤ y + 2 ∧ y ≤ c.2 + 2

/-- The puts of the alignment patterns that are not skipped (44_matrix.md R237). -/
def placedPuts (v : Nat) : List Put :=
  ((alignmentCentres v).filter fun c => ¬ AtFinder v c).flatMap fun c => alignmentPuts c.1 c.2

theorem mem_alignmentCentres {v : Nat} {c : Nat × Nat} :
    c ∈ alignmentCentres v ↔ c.1 ∈ alignmentAt v ∧ c.2 ∈ alignmentAt v := by
  obtain ⟨cx, cy⟩ := c
  simp [alignmentCentres, and_comm]

theorem alignmentCentres_nodup {v : Nat} (low : 1 ≤ v) (high : v ≤ 40) : (alignmentCentres v).Nodup :=
  pairs_nodup (centreSpec low high).nodup (centreSpec low high).nodup

section
variable {v : Nat} (low : 1 ≤ v) (high : v ≤ 40)
include low high

/-- Two patterns that share a cell are one. -/
theorem eq_of_near {c d : Nat × Nat} (hc : c ∈ alignmentCentres v) (hd : d ∈ alignmentCentres v) {x y : Nat}
    (nearC : Near c x y) (nearD : Near d x y) : c = d := by
  have apart := (centreSpec low high).apart
  obtain ⟨c1, c2⟩ := mem_alignmentCentres.mp hc
  obtain ⟨d1, d2⟩ := mem_alignmentCentres.mp hd
  have := apart _ c1 _ d1
  have := apart _ d1 _ c1
  have := apart _ c2 _ d2
  have := apart _ d2 _ c2
  exact Prod.ext (by omega) (by omega)

theorem covers_alignmentPuts_centre {c : Nat × Nat} (hc : c ∈ alignmentCentres v) {x y : Nat} :
    Covers (alignmentPuts c.1 c.2) x y ↔ Near c x y := by
  have place := (centreSpec low high).place
  obtain ⟨c1, c2⟩ := mem_alignmentCentres.mp hc
  have := place _ c1
  have := place _ c2
  exact covers_alignmentPuts (by omega) (by omega)

theorem covers_placedPuts {x y : Nat} :
    Covers (placedPuts v) x y ↔ ∃ c ∈ alignmentCentres v, ¬ AtFinder v c ∧ Near c x y := by
  have flat : Covers (placedPuts v) x y ↔ ∃ c ∈ alignmentCentres v, ¬ AtFinder v c ∧ Covers (alignmentPuts c.1 c.2) x y := by
    simp only [Covers, placedPuts, List.mem_flatMap, List.mem_filter, decide_eq_true_eq]
    constructor
    · rintro ⟨p, ⟨c, ⟨hc, keep⟩, mem⟩, here⟩
      exact ⟨c, hc, keep, p, mem, here⟩
    · rintro ⟨c, hc, keep, p, mem, here⟩
      exact ⟨p, ⟨c, ⟨hc, keep⟩, mem⟩, here⟩
  rw [flat]
  exact exists_congr fun c => and_congr_right fun hc => and_congr_right fun _ => covers_alignmentPuts_centre low high hc

theorem not_covers_placedPuts {x y : Nat}
    (far : ∀ cx ∈ alignmentAt v, ∀ cy ∈ alignmentAt v, OnTable v cx → OnTable v cy → ¬ AtFinder v (cx, cy) →
      ¬ Near (cx, cy) x y) : ¬ Covers (placedPuts v) x y := by
  have place := (centreSpec low high).place
  rw [covers_placedPuts low high]
  rintro ⟨c, hc, kept, near⟩
  obtain ⟨c1, c2⟩ := mem_alignmentCentres.mp hc
  exact far _ c1 _ c2 (place _ c1) (place _ c2) kept near

/-- Step 3 from a grid in which the centres the finders occupy are set and the others are free. -/
theorem foldl_placeAlignment {cs : List (Nat × Nat)} (sub : ∀ c ∈ cs, c ∈ alignmentCentres v) (nodup : cs.Nodup) {g : Grid}
    (free : ∀ c ∈ cs, (g.at c.1 c.2).type = .empty ↔ ¬ AtFinder v c) :
    cs.foldl Grid.placeAlignment g =
      g.putAll ((cs.filter fun c => ¬ AtFinder v c).flatMap fun c => alignmentPuts c.1 c.2) := by
  induction cs generalizing g with
  | nil => rfl
  | cons c cs ih =>
    obtain ⟨freeC, freeCs⟩ := List.forall_mem_cons.mp free
    obtain ⟨subC, subCs⟩ := List.forall_mem_cons.mp sub
    obtain ⟨fresh, nodupCs⟩ := List.nodup_cons.mp nodup
    rw [List.foldl_cons, Grid.placeAlignment]
    by_cases skip : AtFinder v c
    · rw [if_neg (by rw [freeC]; exact not_not.mpr skip), ih subCs nodupCs freeCs,
        List.filter_cons_of_neg (by rwa [decide_eq_true_eq, not_not])]
    · rw [if_pos (freeC.mpr skip), List.filter_cons_of_pos (p := fun c => decide ¬ AtFinder v c) (decide_eq_true skip),
        List.flatMap_cons, ← putAll_append]
      refine ih subCs nodupCs fun d hd => ?_
      rw [← freeCs d hd, at_putAll_of_not_covers]
      intro covers
      have near := (covers_alignmentPuts_centre low high subC).mp covers
      have same := eq_of_near low high subC (subCs d hd) near (by omega)
      exact fresh (same ▸ hd)

end

/-! ## The function patterns as one list of puts -/

/-- Steps 1 and 2 (44_matrix.md R234, R235). -/
def cornerPuts (n : Nat) : List Put := finderPuts n ++ separatorPuts n

/-- Steps 4 to 7 (44_matrix.md R238 to R243). -/
def infoPuts (v : Nat) (e : Ecc) (p : Nat) : List Put :=
  timingPuts (moduleCount v) ++ ([darkModulePut v] ++ (versionPuts v ++ formatPuts (moduleCount v) e p))

/-- Steps 1 to 7 in order (44_matrix.md R232). -/
def allPuts (v : Nat) (e : Ecc) (p : Nat) : List Put :=
  cornerPuts (moduleCount v) ++ (placedPuts v ++ infoPuts v e p)

/-- Every put writes a type that marks the cell as used (44_matrix.md R232, R249). -/
theorem allPuts_typed (v : Nat) (e : Ecc) (p : Nat) : ∀ a ∈ allPuts v e p, a.type ≠ .empty ∧ a.type ≠ .quietZone := by
  have versions : ∀ a ∈ versionPuts v, a.type ≠ .empty ∧ a.type ≠ .quietZone := by
    unfold versionPuts
    split
    · exact nofun
    · simp only [List.forall_mem_flatMap, List.forall_mem_cons]
      simp
  simp only [allPuts, cornerPuts, infoPuts, finderPuts, finderAt, separatorPuts, separatorAt, placedPuts, alignmentPuts,
    timingPuts, darkModulePut, formatPuts, List.forall_mem_append, List.forall_mem_flatMap, List.forall_mem_map,
    List.forall_mem_cons]
  simpa using versions

theorem cellIn_empty {ps : List Put} (typed : ∀ p ∈ ps, p.type ≠ .empty) {x y : Nat} :
    ((cellIn ps x y).getD emptyCell).type = .empty ↔ ¬ Covers ps x y := by
  rw [← cellIn_eq_none]
  cases found : cellIn ps x y with
  | none => simp [emptyCell]
  | some c =>
    obtain ⟨p, mem, rfl⟩ := exists_put_of_cellIn found
    simpa [Put.cell] using typed p mem

theorem covers_cornerPuts {v x y : Nat} (low : 1 ≤ v) :
    Covers (cornerPuts (moduleCount v)) x y ↔
      (x < 8 ∧ y < 8) ∨ (4 * v + 9 ≤ x ∧ x < 4 * v + 17 ∧ y < 8) ∨ (x < 8 ∧ 4 * v + 9 ≤ y ∧ y < 4 * v + 17) := by
  rw [cornerPuts, covers_append, covers_finderPuts, covers_separatorPuts (by unfold moduleCount; omega), moduleCount]
  omega

section
variable {v : Nat} (low : 1 ≤ v) (high : v ≤ 40)
include low high

/-- After step 2 a centre is set exactly when a finder occupies it. -/
theorem centre_free {c : Nat × Nat} (hc : c ∈ alignmentCentres v) :
    (((clearGrid (moduleCount v)).putAll (cornerPuts (moduleCount v))).at c.1 c.2).type = .empty ↔ ¬ AtFinder v c := by
  have typed (q) (mem : q ∈ cornerPuts (moduleCount v)) : q.type ≠ .empty :=
    (allPuts_typed v .L 0 q (List.mem_append_left _ mem)).1
  have place := (centreSpec low high).place
  obtain ⟨c1, c2⟩ := mem_alignmentCentres.mp hc
  have := place _ c1
  have := place _ c2
  rw [at_clearGrid_putAll (by unfold moduleCount; omega) (by unfold moduleCount; omega) typed, cellIn_empty typed,
    covers_cornerPuts low, not_iff_not, AtFinder]
  constructor <;> omega

theorem functionGrid_eq (e : Ecc) (p : Nat) : functionGrid v e p = (clearGrid (moduleCount v)).putAll (allPuts v e p) := by
  have one : ∀ (g : Grid) q, g.put q = g.putAll [q] := fun _ _ => rfl
  simp only [functionGrid, one, putAll_append _ (finderPuts _) (separatorPuts _), Grid.placeAlignments]
  rw [← cornerPuts, foldl_placeAlignment low high (fun c hc => hc) (alignmentCentres_nodup low high)
    fun c hc => centre_free low high hc]
  simp only [putAll_append, allPuts, infoPuts, placedPuts, List.append_assoc]

theorem at_functionGrid {x y : Nat} (hx : x < 4 * v + 17) (hy : y < 4 * v + 17) (e : Ecc) (p : Nat) :
    (functionGrid v e p).at x y = (cellIn (allPuts v e p) x y).getD emptyCell := by
  rw [functionGrid_eq low high]
  exact at_clearGrid_putAll hx hy fun a mem => (allPuts_typed v e p a mem).1

end

/-! ## Function patterns in a built matrix -/

/-- The data mapping writes only cells that are still `EMPTY` (44_matrix.md R246). -/
theorem at_mapData_of_set (pol : Policy) (p : Nat) (cs : List (Nat × Nat)) (bits : List Bool) {g : Grid} {x y : Nat}
    (set : (g.at x y).type ≠ .empty) : (mapData pol p cs bits g).at x y = g.at x y := by
  induction cs generalizing g bits with
  | nil => rfl
  | cons c cs ih =>
    unfold mapData
    split
    case isTrue empty =>
      have store (c' : Cell) : (g.store c.1 c.2 c').at x y = g.at x y :=
        at_store_other g c' (by rintro ⟨rfl, rfl⟩; exact set empty)
      split <;> rw [ih _ (by rw [store]; exact set), store]
    case isFalse => exact ih _ set

/-- A cell of a built matrix at which there is a put. -/
theorem at_build {v : Nat} (low : 1 ≤ v) (high : v ≤ 40) {e : Ecc} {p x y : Nat} {c : Cell} (pol : Policy) (cws : List Byte)
    (hx : x < 4 * v + 17) (hy : y < 4 * v + 17) (put : cellIn (allPuts v e p) x y = some c) :
    (build pol v e p cws).at x y = c := by
  have function : (functionGrid v e p).at x y = c := by rw [at_functionGrid low high hx hy, put]; rfl
  obtain ⟨q, mem, rfl⟩ := exists_put_of_cellIn put
  rw [build, at_mapData_of_set, function]
  rw [function]
  exact (allPuts_typed v e p q mem).1

theorem cellIn_finderPuts {n ox oy dx dy : Nat} (big : 21 ≤ n)
    (corner : (ox = 0 ∧ oy = 0) ∨ (ox = n - 7 ∧ oy = 0) ∨ (ox = 0 ∧ oy = n - 7)) (hdx : dx < 7) (hdy : dy < 7) :
    cellIn (finderPuts n) (ox + dx) (oy + dy) =
      some { type := .finder
             dark := decide (dx = 0 ∨ dx = 6 ∨ dy = 0 ∨ dy = 6 ∨ (2 ≤ dx ∧ dx ≤ 4 ∧ 2 ≤ dy ∧ dy ≤ 4)) } := by
  refine cellIn_eq_some (covers_finderPuts.mpr (by omega)) fun p mem hx hy => ?_
  simp only [finderPuts, finderAt, List.mem_append, List.mem_flatMap, List.mem_map, List.mem_range, or_assoc] at mem
  obtain ⟨i, hi, j, hj, rfl⟩ | ⟨i, hi, j, hj, rfl⟩ | ⟨i, hi, j, hj, rfl⟩ := mem
  all_goals
    obtain ⟨rfl, rfl⟩ : i = dx ∧ j = dy := by dsimp only at hx hy; omega
    rw [Put.cell, Cell.mk.injEq, Bool.eq_iff_iff]
    simp [or_assoc, and_assoc]

theorem cellIn_separatorPuts {n x y : Nat} (covers : Covers (separatorPuts n) x y) :
    cellIn (separatorPuts n) x y = some { type := .separator, dark := false } := by
  refine cellIn_eq_some covers ?_
  simp only [separatorPuts, separatorAt, List.forall_mem_flatMap, List.forall_mem_cons, Put.cell]
  simp

theorem cellIn_placedPuts {v : Nat} (low : 1 ≤ v) (high : v ≤ 40) {cx cy i j : Nat} (hcx : cx ∈ alignmentAt v)
    (hcy : cy ∈ alignmentAt v) (kept : ¬ AtFinder v (cx, cy)) (hi : i ≤ 4) (hj : j ≤ 4) :
    cellIn (placedPuts v) (cx + i - 2) (cy + j - 2) =
      some { type := .alignment, dark := decide (i = 0 ∨ i = 4 ∨ j = 0 ∨ j = 4 ∨ (i = 2 ∧ j = 2)) } := by
  have place := (centreSpec low high).place
  have := place _ hcx
  have := place _ hcy
  have centre : (cx, cy) ∈ alignmentCentres v := mem_alignmentCentres.mpr ⟨hcx, hcy⟩
  have near : Near (cx, cy) (cx + i - 2) (cy + j - 2) := by dsimp only [Near]; omega
  refine cellIn_eq_some ((covers_placedPuts low high).mpr ⟨_, centre, kept, near⟩) fun p mem hx hy => ?_
  obtain ⟨c, hc, mem⟩ := List.mem_flatMap.mp mem
  have hc := (List.mem_filter.mp hc).1
  have covered : Covers (alignmentPuts c.1 c.2) (cx + i - 2) (cy + j - 2) := ⟨p, mem, hx, hy⟩
  have same := eq_of_near low high hc centre ((covers_alignmentPuts_centre low high hc).mp covered) near
  subst same
  simp only [alignmentPuts, List.mem_flatMap, List.mem_map, List.mem_range] at mem
  obtain ⟨b, hb, a, ha, rfl⟩ := mem
  obtain ⟨rfl, rfl⟩ : a = i ∧ b = j := by dsimp only at hx hy; omega
  have offsets : ∀ a : Nat, a < 5 → ∀ b : Nat, b < 5 → (max ((a : Int) - 2).natAbs ((b : Int) - 2).natAbs != 1) =
      decide (a = 0 ∨ a = 4 ∨ b = 0 ∨ b = 4 ∨ (a = 2 ∧ b = 2)) := by decide
  rw [Put.cell, offsets a ha b hb]

theorem cellIn_timingPuts {n x y i : Nat} (covers : Covers (timingPuts n) x y) (place : (x = 6 ∧ y = i) ∨ (x = i ∧ y = 6))
    (hi : 8 ≤ i) : cellIn (timingPuts n) x y = some { type := .timing, dark := decide (i % 2 = 0) } := by
  refine cellIn_eq_some covers fun p mem hx hy => ?_
  simp only [timingPuts, List.mem_flatMap, List.mem_range'_1, List.mem_cons, List.not_mem_nil, or_false] at mem
  obtain ⟨k, hk, rfl | rfl⟩ := mem
  all_goals
    obtain rfl : k = i := by dsimp only at hx hy; omega
    rfl

theorem cellIn_versionPuts {v i x y : Nat} (new : 7 ≤ v) (hi : i < 18)
    (place : (x = 4 * v + 6 + i % 3 ∧ y = i / 3) ∨ (x = i / 3 ∧ y = 4 * v + 6 + i % 3)) :
    cellIn (versionPuts v) x y = some { type := .version, dark := (versionInfo v).testBit i } := by
  refine cellIn_eq_some (covers_versionPuts.mpr ⟨new, by omega⟩) fun p mem hx hy => ?_
  rw [versionPuts, if_neg (Nat.not_lt.mpr new)] at mem
  simp only [moduleCount, List.mem_flatMap, List.mem_range, List.mem_cons, List.not_mem_nil, or_false] at mem
  obtain ⟨k, hk, rfl | rfl⟩ := mem
  all_goals
    obtain rfl : k = i := by dsimp only at hx hy; omega
    rfl

theorem cellIn_formatPuts {n i x y : Nat} (e : Ecc) (p : Nat) (big : 21 ≤ n) (hi : i < 15)
    (place : (x = 8 ∧ y = formatRowA n i) ∨ (x = formatColB n i ∧ y = 8)) :
    cellIn (formatPuts n e p) x y = some { type := .format, dark := (formatInfo e p).testBit i } := by
  have covers : Covers (formatPuts n e p) x y := by
    rw [covers_formatPuts e p big]
    unfold formatRowA formatColB at place
    split_ifs at place <;> omega
  refine cellIn_eq_some covers fun q mem hx hy => ?_
  simp only [formatPuts, List.mem_flatMap, List.mem_range, List.mem_cons, List.not_mem_nil, or_false] at mem
  obtain ⟨k, hk, rfl | rfl⟩ := mem
  all_goals
    obtain rfl : k = i := by
      dsimp only at hx hy
      unfold formatRowA formatColB at *
      split_ifs at * <;> omega
    rfl

section
variable {v : Nat} (low : 1 ≤ v) (high : v ≤ 40) {e : Ecc} {p x y : Nat} {c : Cell}
include low high

/-- A cell of steps 4 to 7 that no earlier step covers. -/
theorem cellIn_allPuts_of_info (corner : ¬ Covers (cornerPuts (moduleCount v)) x y)
    (far : ∀ cx ∈ alignmentAt v, ∀ cy ∈ alignmentAt v, OnTable v cx → OnTable v cy → ¬ AtFinder v (cx, cy) →
      ¬ Near (cx, cy) x y) (info : cellIn (infoPuts v e p) x y = some c) : cellIn (allPuts v e p) x y = some c := by
  rw [allPuts, cellIn_append_of_not_covers corner, cellIn_append_of_not_covers (not_covers_placedPuts low high far), info]

end

/-- Settles O28: nothing is put before the finders, only the finders before the separators, and nothing at the dark module. -/
theorem findersSeparatorsAndDarkModuleStand : Obligations.FindersSeparatorsAndDarkModuleStand := by
  intro pol v e p cws low high g N light
  have hN : N = moduleCount v := rfl
  have big : 21 ≤ N := by omega
  have separator (x y : Nat) (covers : Covers (separatorPuts N) x y) : g.at x y = light := by
    have cell := cellIn_separatorPuts covers
    rw [covers_separatorPuts big] at covers
    refine at_build low high pol cws (by omega) (by omega) (cellIn_append_of_some ?_ _)
    rw [cornerPuts, ← hN, cellIn_append_of_not_covers (by rw [covers_finderPuts]; omega), cell]
  refine ⟨fun ox oy dx dy corner hdx hdy => ?_, fun i hi => ?_, ?_⟩
  · refine at_build low high pol cws (by omega) (by omega) (cellIn_append_of_some (cellIn_append_of_some ?_ _) _)
    exact cellIn_finderPuts (by unfold moduleCount; omega) (hN ▸ corner) hdx hdy
  · simp only [covers_separatorPuts big] at separator
    exact ⟨separator _ _ (by omega), separator _ _ (by omega), separator _ _ (by omega), separator _ _ (by omega),
      separator _ _ (by omega), separator _ _ (by omega)⟩
  · refine at_build low high pol cws (by omega) (by omega) (cellIn_allPuts_of_info low high ?_ ?_ ?_)
    · rw [covers_cornerPuts low]; omega
    · intro cx _ cy _ placeX placeY kept near
      dsimp only [AtFinder, Near] at kept near
      omega
    · rw [infoPuts, cellIn_append_of_not_covers (by rw [covers_timingPuts]; omega)]
      exact cellIn_append_of_some (cellIn_eq_some (covers_darkModulePut.mpr ⟨rfl, rfl⟩) (by simp [darkModulePut, Put.cell])) _

/-- Settles O29: a pattern that is not skipped shares no cell with the corners or with another pattern. -/
theorem alignmentPatternsStandWhole : Obligations.AlignmentPatternsStandWhole := by
  intro pol v e p cws cx cy i j low high hcx hcy hi hj last kept
  have place := (centreSpec low high).place
  have placeX := place _ hcx
  have placeY := place _ hcy
  refine at_build low high pol cws (by omega) (by omega) ?_
  rw [allPuts, cellIn_append_of_not_covers (by rw [covers_cornerPuts low]; omega)]
  exact cellIn_append_of_some (cellIn_placedPuts low high hcx hcy kept hi hj) _

/-- Settles O30: off the corners only an alignment pattern can be put on a timing cell before. -/
theorem timingPatternsAlternate : Obligations.TimingPatternsAlternate := by
  intro pol v e p cws i low high first last clear g
  have timing (x y : Nat) (place : (x = 6 ∧ y = i) ∨ (x = i ∧ y = 6)) :
      g.at x y = { type := .timing, dark := decide (i % 2 = 0) } := by
    refine at_build low high pol cws (by omega) (by omega) (cellIn_allPuts_of_info low high ?_ ?_ ?_)
    · rw [covers_cornerPuts low]; omega
    · intro cx hcx cy hcy placeX placeY kept near
      have := clear cx hcx
      have := clear cy hcy
      dsimp only [AtFinder, Near] at kept near
      omega
    · exact cellIn_append_of_some (cellIn_timingPuts (covers_timingPuts.mpr (by unfold moduleCount; omega)) place first) _
  exact ⟨timing _ _ (.inl ⟨rfl, rfl⟩), timing _ _ (.inr ⟨rfl, rfl⟩)⟩

/-- Settles O31: no earlier step covers a cell of the version information. -/
theorem versionInformationReadsBack : Obligations.VersionInformationReadsBack := by
  intro pol v e p cws i new high hi g N c
  have low : 1 ≤ v := by omega
  have version (x y : Nat) (place : (x = 4 * v + 6 + i % 3 ∧ y = i / 3) ∨ (x = i / 3 ∧ y = 4 * v + 6 + i % 3)) :
      g.at x y = c := by
    refine at_build low high pol cws (by omega) (by omega) (cellIn_allPuts_of_info low high ?_ ?_ ?_)
    · rw [covers_cornerPuts low]; omega
    · intro cx _ cy _ placeX placeY kept near
      dsimp only [AtFinder, Near] at kept near
      omega
    · rw [infoPuts, cellIn_append_of_not_covers (by rw [covers_timingPuts]; omega),
        cellIn_append_of_not_covers (by rw [covers_darkModulePut]; omega)]
      exact cellIn_append_of_some (cellIn_versionPuts new hi place) _
  exact ⟨version _ _ (by omega), version _ _ (by omega)⟩

/-- Settles O32: no earlier step covers a cell of the format information. -/
theorem formatInformationReadsBack : Obligations.FormatInformationReadsBack := by
  intro pol v e p cws i low high hi g N c
  have big : 21 ≤ moduleCount v := by unfold moduleCount; omega
  have format (x y : Nat) (place : (x = 8 ∧ y = formatRowA N i) ∨ (x = formatColB N i ∧ y = 8)) : g.at x y = c := by
    have cell := cellIn_formatPuts e p big hi place
    have covers : Covers (formatPuts (moduleCount v) e p) x y := by
      by_contra none
      rw [cellIn_eq_none.mpr none] at cell
      cases cell
    rw [covers_formatPuts e p big, moduleCount] at covers
    refine at_build low high pol cws (by omega) (by omega) (cellIn_allPuts_of_info low high ?_ ?_ ?_)
    · rw [covers_cornerPuts low]; omega
    · intro cx _ cy _ placeX placeY kept near
      dsimp only [AtFinder, Near] at kept near
      omega
    · rw [infoPuts, cellIn_append_of_not_covers (by rw [covers_timingPuts, moduleCount]; omega),
        cellIn_append_of_not_covers (by rw [covers_darkModulePut]; omega),
        cellIn_append_of_not_covers (by rw [covers_versionPuts]; omega), cell]
  exact ⟨format _ _ (.inl ⟨rfl, rfl⟩), format _ _ (.inr ⟨rfl, rfl⟩)⟩

end Sys2Proof.Machine

end

section
/-! The traversal and the data cells (44_matrix.md §3), the cells that stay free after the function patterns, and what every built
matrix keeps (§4). -/

namespace Sys2Proof.Machine

open Sys2Proof.Spec

/-! ## The traversal (44_matrix.md R245) -/

/-- The right column of pair `j`: column 6 is passed over. -/
def pairColumn (n j : Nat) : Nat := if 6 < n - 1 - 2 * j then n - 1 - 2 * j else n - 2 - 2 * j

/-- What `col` holds before pair `j`, column 6 not yet passed over. -/
def loopColumn (n j : Nat) : Nat := if 6 ≤ n - 1 - 2 * j then n - 1 - 2 * j else n - 2 - 2 * j

section
variable {n m : Nat} (odd : n = 2 * m + 1)
include odd

/-- The loop from pair `j` on. -/
theorem zigzagFrom_eq {j k fuel : Nat} (pairs : j + k = m) (enough : k ≤ fuel) :
    zigzagFrom n fuel (loopColumn n j) (decide (j % 2 = 0)) =
      (List.range' j k).flatMap fun i => columnPair n (pairColumn n i) (decide (i % 2 = 0)) := by
  induction k generalizing j fuel with
  | zero =>
    have done : loopColumn n j = 0 := by unfold loopColumn; split_ifs <;> omega
    cases fuel with
    | zero => rfl
    | succ fuel => rw [zigzagFrom, if_pos done]; rfl
  | succ k ih =>
    obtain ⟨fuel, rfl⟩ : ∃ f, fuel = f + 1 := ⟨fuel - 1, by omega⟩
    have more : loopColumn n j ≠ 0 := by unfold loopColumn; split_ifs <;> omega
    have column : (if loopColumn n j = 6 then 5 else loopColumn n j) = pairColumn n j := by
      unfold loopColumn pairColumn; split_ifs <;> omega
    have next : pairColumn n j - 2 = loopColumn n (j + 1) := by unfold loopColumn pairColumn; split_ifs <;> omega
    have turn : (!decide (j % 2 = 0)) = decide ((j + 1) % 2 = 0) := by
      rw [← decide_not]; exact decide_eq_decide.mpr (by omega)
    rw [zigzagFrom, if_neg more, List.range'_succ, List.flatMap_cons]
    simp only [column, next, turn]
    rw [ih (by omega) (by omega)]

variable (big : 3 ≤ m)
include big

theorem zigzag_eq :
    zigzag n = (List.range m).flatMap fun j => columnPair n (pairColumn n j) (decide (j % 2 = 0)) := by
  have first : n - 1 = loopColumn n 0 := by unfold loopColumn; split_ifs <;> omega
  rw [zigzag, first, List.range_eq_range']
  exact zigzagFrom_eq odd (Nat.zero_add m) (by omega)

theorem zigzag_length : (zigzag n).length = n * (n - 1) := by
  rw [zigzag_eq odd big, flatMap_length fun j _ => columnPair_length n _ _, List.length_range, odd, Nat.add_sub_cancel]
  ring

/-- Cell `b` of row step `r` of pair `j`. -/
theorem zigzag_getElem? {j r b : Nat} (hj : j < m) (hr : r < n) (hb : b < 2) :
    (zigzag n)[2 * n * j + 2 * r + b]? = some (pairColumn n j - b, if j % 2 = 0 then n - 1 - r else r) := by
  have place : 2 * n * j + 2 * r + b = j * (2 * n) + (2 * r + b) := by ring
  rw [zigzag_eq odd big, place, flatMap_getElem? (fun j _ => columnPair_length n _ _) (by omega), List.getElem?_range hj,
    Option.bind_some, columnPair_getElem? _ hr hb]
  simp only [decide_eq_true_eq]

end

theorem mem_columnPair {n col : Nat} {up : Bool} {c : Nat × Nat} :
    c ∈ columnPair n col up ↔ (c.1 = col ∨ c.1 = col - 1) ∧ c.2 < n := by
  have row (y : Nat) : y ∈ (if up then (List.range n).reverse else List.range n) ↔ y < n := by cases up <;> simp
  simp only [columnPair, List.mem_flatMap, row, List.mem_cons, List.not_mem_nil, or_false, Prod.ext_iff]
  constructor
  · rintro ⟨y, hy, ⟨hx, rfl⟩ | ⟨hx, rfl⟩⟩
    · exact ⟨.inl hx, hy⟩
    · exact ⟨.inr hx, hy⟩
  · rintro ⟨hx | hx, hy⟩
    · exact ⟨_, hy, .inl ⟨hx, rfl⟩⟩
    · exact ⟨_, hy, .inr ⟨hx, rfl⟩⟩

theorem columnPair_nodup {n col : Nat} (up : Bool) (pos : 1 ≤ col) : (columnPair n col up).Nodup := by
  have rows : (if up then (List.range n).reverse else List.range n).Nodup := by
    cases up
    · exact List.nodup_range
    · exact List.nodup_reverse.mpr List.nodup_range
  rw [columnPair, List.nodup_flatMap]
  refine ⟨fun y _ => by simp; omega, List.Pairwise.imp ?_ rows⟩
  intro y z different
  simp [Function.onFun, different.symm]

section
variable {n m : Nat} (odd : n = 2 * m + 1) (big : 3 ≤ m)
include odd big

theorem zigzag_nodup : (zigzag n).Nodup := by
  rw [zigzag_eq odd big, List.nodup_flatMap]
  have column {j : Nat} (hj : j < m) : 1 ≤ pairColumn n j := by unfold pairColumn; split_ifs <;> omega
  refine ⟨fun j hj => columnPair_nodup _ (column (List.mem_range.mp hj)), List.Pairwise.imp_of_mem ?_ List.pairwise_lt_range⟩
  intro j k hj hk before
  rw [Function.onFun, List.disjoint_left]
  intro c first second
  have := column (List.mem_range.mp hk)
  have apart : pairColumn n k + 2 ≤ pairColumn n j := by
    have := List.mem_range.mp hk
    unfold pairColumn; split_ifs <;> omega
  have := (mem_columnPair.mp first).1
  have := (mem_columnPair.mp second).1
  omega

/-- The traversal visits every cell but those of column 6. -/
theorem mem_zigzag {x y : Nat} : (x, y) ∈ zigzag n ↔ x < n ∧ y < n ∧ x ≠ 6 := by
  rw [zigzag_eq odd big, List.mem_flatMap]
  simp only [List.mem_range, mem_columnPair, pairColumn]
  constructor
  · rintro ⟨j, hj, place, hy⟩
    split_ifs at place <;> omega
  · rintro ⟨hx, hy, other⟩
    refine ⟨if 6 < x then (n - 1 - x) / 2 else (n - 2 - x) / 2, ?_, ?_, hy⟩ <;> split_ifs <;> omega

end

/-! ## The data mapping (44_matrix.md R246, R247) -/

/-- What the mapping writes to a free cell for the next bit, or for none. -/
def dataCell (pol : Policy) (p : Nat) (c : Nat × Nat) (bit : Option Bool) : Cell :=
  { type := .data
    dark := match bit with
      | some b => b ^^ maskcond p c.1 c.2
      | none => pol.remainderMasked && maskcond p c.1 c.2 }

/-- The cell is still `EMPTY`. -/
def Grid.free (g : Grid) (c : Nat × Nat) : Bool := decide ((g.at c.1 c.2).type = .empty)

theorem mapData_cons (pol : Policy) (p : Nat) (c : Nat × Nat) (cs : List (Nat × Nat)) (bits : List Bool) (g : Grid) :
    mapData pol p (c :: cs) bits g =
      if g.free c then mapData pol p cs bits.tail (g.store c.1 c.2 (dataCell pol p c bits.head?))
      else mapData pol p cs bits g := by
  simp only [Grid.free, decide_eq_true_eq]
  cases bits <;> rfl

/-- The `k`-th free cell of the traversal takes bit `k`. -/
theorem at_mapData {pol : Policy} {p : Nat} {cs : List (Nat × Nat)} {bits : List Bool} {g : Grid} (nodup : cs.Nodup)
    (inside : ∀ c ∈ cs, g.Inside c.1 c.2) {k : Nat} {c : Nat × Nat} (place : (cs.filter g.free)[k]? = some c) :
    (mapData pol p cs bits g).at c.1 c.2 = dataCell pol p c bits[k]? := by
  induction cs generalizing bits g k with
  | nil => cases place
  | cons a cs ih =>
    obtain ⟨fresh, nodupCs⟩ := List.nodup_cons.mp nodup
    obtain ⟨insideA, insideCs⟩ := List.forall_mem_cons.mp inside
    rw [mapData_cons]
    by_cases free : g.free a
    · rw [if_pos free]
      rw [List.filter_cons_of_pos free] at place
      have stored : (g.store a.1 a.2 (dataCell pol p a bits.head?)).at a.1 a.2 = dataCell pol p a bits.head? :=
        at_store_same _ insideA
      cases k with
      | zero =>
        obtain rfl : a = c := by simpa using place
        rw [at_mapData_of_set _ _ _ _ (by rw [stored]; exact nofun), stored, List.head?_eq_getElem?]
      | succ k =>
        have others : cs.filter g.free = cs.filter (g.store a.1 a.2 (dataCell pol p a bits.head?)).free := by
          refine List.filter_congr fun b hb => ?_
          rw [Grid.free, Grid.free, at_store_other]
          rintro ⟨hx, hy⟩
          exact fresh (Prod.ext hx hy ▸ hb)
        rw [List.getElem?_cons_succ, others] at place
        rw [ih nodupCs (fun b hb => inside_of_rowLengths (store_rowLengths ..) (insideCs b hb)) place, List.getElem?_tail]
    · rw [if_neg free]
      rw [List.filter_cons_of_neg free] at place
      exact ih nodupCs insideCs place

/-- Bit `k` of the stream: codeword `k / 8`, most significant bit first (44_matrix.md R244). -/
theorem bitStream_getElem? (cws : List Byte) (k : Nat) :
    (bitStream cws)[k]? = if k < 8 * cws.length then some ((cws.getD (k / 8) 0).getLsbD (7 - k % 8)) else none := by
  have bytes (b : Byte) (_ : b ∈ cws) : (byteBits b).length = 8 := by rw [byteBits, List.length_map, List.length_range]
  split
  case isTrue inside =>
    have low : k % 8 < 8 := Nat.mod_lt _ (by decide)
    have byte : k / 8 < cws.length := by omega
    have place := flatMap_getElem? bytes (x := k / 8) low
    rw [show k / 8 * 8 + k % 8 = k by omega, List.getElem?_eq_getElem byte, Option.bind_some, byteBits, List.getElem?_map,
      List.getElem?_range low] at place
    rw [bitStream, place, List.getD_eq_getElem _ _ byte]
    rfl
  case isFalse outside =>
    rw [List.getElem?_eq_none]
    rw [bitStream, flatMap_length bytes]
    omega

/-! ## The cells that stay free (44_matrix.md R250) -/

/-- The square corners: finders, separators, format information and the dark module. -/
abbrev InCorner (v x y : Nat) : Prop :=
  (x < 9 ∧ y < 9) ∨ (4 * v + 9 ≤ x ∧ y < 9) ∨ (x < 9 ∧ 4 * v + 9 ≤ y)

/-- The version information. -/
abbrev InVersion (v x y : Nat) : Prop :=
  7 ≤ v ∧ ((4 * v + 6 ≤ x ∧ x < 4 * v + 9 ∧ y < 6) ∨ (x < 6 ∧ 4 * v + 6 ≤ y ∧ y < 4 * v + 9))

/-- An alignment pattern that is not skipped. -/
abbrev InAlignment (v x y : Nat) : Prop := ∃ c ∈ alignmentCentres v, ¬ AtFinder v c ∧ Near c x y

section
variable {v x y : Nat} (low : 1 ≤ v) (high : v ≤ 40) (hx : x < 4 * v + 17) (hy : y < 4 * v + 17)
include low high hx hy

/-- Row 6 and column 6 are covered from end to end. -/
theorem covers_allPuts (e : Ecc) (p : Nat) :
    Covers (allPuts v e p) x y ↔ InCorner v x y ∨ x = 6 ∨ y = 6 ∨ InVersion v x y ∨ InAlignment v x y := by
  rw [allPuts, infoPuts, covers_append, covers_append, covers_append, covers_append, covers_append, covers_cornerPuts low,
    covers_placedPuts low high, covers_timingPuts, covers_darkModulePut, covers_versionPuts,
    covers_formatPuts e p (by unfold moduleCount; omega), moduleCount]
  by_cases alignment : InAlignment v x y
  · simp only [alignment, true_or, or_true]
  by_cases version : InVersion v x y
  · exact iff_of_true (.inr (.inr (.inr (.inr (.inl version))))) (.inr (.inr (.inr (.inl version))))
  · simp only [alignment, version, false_or, or_false, InCorner]
    constructor
    · omega
    · intro place
      by_cases onRow : y = 6
      · omega
      by_cases onColumn : x = 6
      · omega
      simp only [onRow, onColumn, false_or, or_false, false_and] at place ⊢
      omega

theorem functionGrid_free (e : Ecc) (p : Nat) :
    (functionGrid v e p).free (x, y) = true ↔
      ¬ (InCorner v x y ∨ x = 6 ∨ y = 6 ∨ InVersion v x y ∨ InAlignment v x y) := by
  rw [Grid.free, decide_eq_true_eq, at_functionGrid low high hx hy,
    cellIn_empty fun a mem => (allPuts_typed v e p a mem).1, covers_allPuts low high hx hy]

end

/-! ### Their number -/

theorem card_square_filter {n : Nat} (p q : Nat → Prop) [DecidablePred p] [DecidablePred q] :
    ((square n).filter fun c => p c.1 ∧ q c.2).card =
      ((Finset.range n).filter p).card * ((Finset.range n).filter q).card := by
  rw [square, Finset.product_eq_sprod, Finset.filter_product, Finset.card_product]

theorem card_range_filter {n a b : Nat} (h : b ≤ n) : ((Finset.range n).filter fun x => a ≤ x ∧ x < b).card = b - a := by
  rw [← Nat.card_Ico]
  congr 1
  ext x
  simp only [Finset.mem_filter, Finset.mem_range, Finset.mem_Ico]
  omega

/-- A rectangle of cells. -/
abbrev InBox (a b c d : Nat) (k : Nat × Nat) : Prop := (a ≤ k.1 ∧ k.1 < b) ∧ (c ≤ k.2 ∧ k.2 < d)

theorem card_box {n a b c d : Nat} (hb : b ≤ n) (hd : d ≤ n) :
    ((square n).filter fun k => InBox a b c d k).card = (b - a) * (d - c) := by
  rw [card_square_filter (fun x => a ≤ x ∧ x < b) fun y => c ≤ y ∧ y < d, card_range_filter hb, card_range_filter hd]

theorem card_filter_or {n : Nat} {p q : Nat × Nat → Prop} [DecidablePred p] [DecidablePred q]
    (disjoint : ∀ c, p c → ¬ q c) :
    ((square n).filter fun c => p c ∨ q c).card =
      ((square n).filter fun c => p c).card + ((square n).filter fun c => q c).card := by
  rw [Finset.filter_or, Finset.card_union_of_disjoint (Finset.disjoint_filter.mpr fun c _ => disjoint c)]

/-- A coordinate off the timing line that some centre of the table covers. -/
abbrev OnPattern (v x : Nat) : Prop := x ≠ 6 ∧ ∃ c ∈ alignmentAt v, c ≤ x + 2 ∧ x ≤ c + 2

/-- A coordinate that the first centre of the table covers, off the timing line. -/
abbrev OnFirst (x : Nat) : Prop := x ≠ 6 ∧ 4 ≤ x ∧ x < 9

/-- Each centre covers five coordinates, and no two cover one. -/
theorem card_onPattern {v : Nat} (low : 2 ≤ v) (high : v ≤ 40) :
    ((Finset.range (4 * v + 17)).filter (OnPattern v)).card = 5 * (v / 7 + 2) - 1 := by
  obtain ⟨place, apart, nodup, count⟩ := centreSpec (show 1 ≤ v by omega) high
  obtain ⟨six, -, length⟩ := count low
  have blocks : (Finset.range (4 * v + 17)).filter (OnPattern v) =
      ((alignmentAt v).toFinset.biUnion fun c => Finset.Icc (c - 2) (c + 2)).erase 6 := by
    ext x
    simp only [Finset.mem_filter, Finset.mem_range, Finset.mem_erase, Finset.mem_biUnion, List.mem_toFinset, Finset.mem_Icc]
    constructor
    · rintro ⟨-, other, c, hc, near⟩
      exact ⟨other, c, hc, by omega⟩
    · rintro ⟨other, c, hc, near⟩
      have := place c hc
      exact ⟨by omega, other, c, hc, by omega⟩
  have disjoint : Set.PairwiseDisjoint ((alignmentAt v).toFinset : Set Nat) fun c => Finset.Icc (c - 2) (c + 2) := by
    intro c hc d hd different
    rw [Finset.mem_coe, List.mem_toFinset] at hc hd
    refine Finset.disjoint_left.mpr fun x first second => ?_
    have := Finset.mem_Icc.mp first
    have := Finset.mem_Icc.mp second
    have := apart c hc d hd
    have := apart d hd c hc
    omega
  have five (c) (hc : c ∈ (alignmentAt v).toFinset) : (Finset.Icc (c - 2) (c + 2)).card = 5 := by
    have := place c (List.mem_toFinset.mp hc)
    rw [Nat.card_Icc]
    omega
  rw [blocks, Finset.card_erase_of_mem, Finset.card_biUnion disjoint, Finset.sum_const_nat five,
    List.toFinset_card_of_nodup nodup, length, Nat.mul_comm]
  exact Finset.mem_biUnion.mpr ⟨6, List.mem_toFinset.mpr six, by decide⟩

theorem card_onFirst {n : Nat} (big : 9 ≤ n) : ((Finset.range n).filter OnFirst).card = 4 := by
  have four : (Finset.range n).filter OnFirst = {4, 5, 7, 8} := by
    ext x
    simp only [Finset.mem_filter, Finset.mem_range, Finset.mem_insert, Finset.mem_singleton, OnFirst]
    omega
  rw [four]
  rfl

/-- A coordinate that the last centre of the table covers. -/
abbrev OnLast (v x : Nat) : Prop := 4 * v + 8 ≤ x ∧ x < 4 * v + 13

/-- A cell of an alignment pattern off the timing lines. -/
abbrev OffTiming (v : Nat) (c : Nat × Nat) : Prop := c.1 ≠ 6 ∧ c.2 ≠ 6 ∧ InAlignment v c.1 c.2

/-- Every pair of covered coordinates is a cell of one pattern, placed or skipped. -/
theorem onPattern_cases {v : Nat} (low : 2 ≤ v) (high : v ≤ 40) (c : Nat × Nat) :
    (if OnPattern v c.1 ∧ OnPattern v c.2 then 1 else 0) =
      (if OffTiming v c then 1 else 0) + (if OnFirst c.1 ∧ OnFirst c.2 then 1 else 0) +
        (if OnLast v c.1 ∧ OnFirst c.2 then 1 else 0) + (if OnFirst c.1 ∧ OnLast v c.2 then 1 else 0) := by
  obtain ⟨x, y⟩ := c
  have low' : 1 ≤ v := by omega
  obtain ⟨place, -, -, count⟩ := centreSpec low' high
  obtain ⟨six, last, -⟩ := count low
  dsimp only
  by_cases covered : OnPattern v x ∧ OnPattern v y
  · obtain ⟨⟨otherX, cx, hcx, nearX⟩, otherY, cy, hcy, nearY⟩ := id covered
    have placeX := place cx hcx
    have placeY := place cy hcy
    have centre : (cx, cy) ∈ alignmentCentres v := mem_alignmentCentres.mpr ⟨hcx, hcy⟩
    have near : Near (cx, cy) x y := ⟨nearX.1, nearX.2, nearY⟩
    have off : OffTiming v (x, y) ↔ ¬ AtFinder v (cx, cy) := by
      constructor
      · rintro ⟨-, -, d, hd, kept, nearD⟩ skipped
        exact kept (eq_of_near low' high hd centre nearD near ▸ skipped)
      · exact fun kept => ⟨otherX, otherY, _, centre, kept, near⟩
    have kind {z c : Nat} (other : z ≠ 6) (placed : OnTable v c) (near : c ≤ z + 2 ∧ z ≤ c + 2) :
        (OnFirst z ↔ c = 6) ∧ (OnLast v z ↔ c = 4 * v + 10) := by omega
    obtain ⟨firstX, lastX⟩ := kind otherX placeX nearX
    obtain ⟨firstY, lastY⟩ := kind otherY placeY nearY
    rw [if_pos covered]
    simp only [off, firstX, lastX, firstY, lastY, AtFinder]
    clear * - low
    split_ifs <;> omega
  · have off : ¬ OffTiming v (x, y) := by
      rintro ⟨otherX, otherY, d, hd, -, near⟩
      obtain ⟨d1, d2⟩ := mem_alignmentCentres.mp hd
      exact covered ⟨⟨otherX, _, d1, near.1, near.2.1⟩, otherY, _, d2, near.2.2⟩
    have first {z : Nat} (h : OnFirst z) : OnPattern v z := ⟨h.1, 6, six, by omega⟩
    have end_ {z : Nat} (h : OnLast v z) : OnPattern v z := ⟨by omega, _, last, by omega⟩
    rw [if_neg covered, if_neg off, if_neg fun h => covered ⟨first h.1, first h.2⟩,
      if_neg fun h => covered ⟨end_ h.1, first h.2⟩, if_neg fun h => covered ⟨first h.1, end_ h.2⟩]

theorem card_offTiming {v : Nat} (low : 2 ≤ v) (high : v ≤ 40) :
    ((square (4 * v + 17)).filter fun c => OffTiming v c).card + 56 = (5 * (v / 7 + 2) - 1) * (5 * (v / 7 + 2) - 1) := by
  have sum := Finset.sum_congr (rfl : square (4 * v + 17) = _) fun c _ => onPattern_cases low high c
  simp only [Finset.sum_add_distrib, ← Finset.card_filter, card_square_filter, card_onPattern low high,
    card_onFirst (show 9 ≤ 4 * v + 17 by omega), card_range_filter (show 4 * v + 13 ≤ 4 * v + 17 by omega)] at sum
  omega

theorem card_offTiming_one (n : Nat) : ((square n).filter fun c => OffTiming 1 c).card = 0 := by
  have none : ∀ c ∈ square n, ¬ OffTiming 1 c := by
    rintro c - ⟨-, -, d, hd, -⟩
    have coordinate := (mem_alignmentCentres.mp hd).1
    rw [show alignmentAt 1 = [] by decide] at coordinate
    cases coordinate
  rw [Finset.card_eq_zero, Finset.filter_eq_empty_iff]
  exact none

/-- The corners and the timing lines: five rectangles that share no cell. -/
abbrev InFrame (v : Nat) (c : Nat × Nat) : Prop :=
  InBox 0 9 0 9 c ∨ InBox (4 * v + 9) (4 * v + 17) 0 9 c ∨ InBox 0 9 (4 * v + 9) (4 * v + 17) c ∨
    InBox 9 (4 * v + 9) 6 7 c ∨ InBox 6 7 9 (4 * v + 9) c

/-- The version information: two rectangles that share no cell. -/
abbrev InBlocks (v : Nat) (c : Nat × Nat) : Prop := InBox (4 * v + 6) (4 * v + 9) 0 6 c ∨ InBox 0 6 (4 * v + 6) (4 * v + 9) c

section
variable {v x y : Nat} (hx : x < 4 * v + 17) (hy : y < 4 * v + 17)
include hx hy

theorem inFrame_iff : InFrame v (x, y) ↔ InCorner v x y ∨ x = 6 ∨ y = 6 := by
  constructor
  · rintro (box | box | box | box | box)
    · exact .inl (.inl ⟨box.1.2, box.2.2⟩)
    · exact .inl (.inr (.inl ⟨box.1.1, box.2.2⟩))
    · exact .inl (.inr (.inr ⟨box.1.2, box.2.1⟩))
    · exact .inr (.inr (by omega))
    · exact .inr (.inl (by omega))
  · have topLeft (h : x < 9 ∧ y < 9) : InFrame v (x, y) := .inl (by omega)
    have topRight (h : 4 * v + 9 ≤ x ∧ y < 9) : InFrame v (x, y) := .inr (.inl (by omega))
    have bottomLeft (h : x < 9 ∧ 4 * v + 9 ≤ y) : InFrame v (x, y) := .inr (.inr (.inl (by omega)))
    have row (h : 9 ≤ x ∧ x < 4 * v + 9 ∧ y = 6) : InFrame v (x, y) := .inr (.inr (.inr (.inl (by omega))))
    have column (h : x = 6 ∧ 9 ≤ y ∧ y < 4 * v + 9) : InFrame v (x, y) := .inr (.inr (.inr (.inr (by omega))))
    rintro ((corner | corner | corner) | onColumn | onRow)
    · exact topLeft corner
    · exact topRight corner
    · exact bottomLeft corner
    · rcases Nat.lt_or_ge y 9 with above | below
      · exact topLeft (by omega)
      rcases Nat.lt_or_ge y (4 * v + 9) with above | below
      · exact column (by omega)
      · exact bottomLeft (by omega)
    · rcases Nat.lt_or_ge x 9 with left | right
      · exact topLeft (by omega)
      rcases Nat.lt_or_ge x (4 * v + 9) with left | right
      · exact row (by omega)
      · exact topRight (by omega)

end

theorem inBlocks_iff {v x y : Nat} : 7 ≤ v ∧ InBlocks v (x, y) ↔ InVersion v x y := by
  simp only [InBlocks, InBox, InVersion, Nat.zero_le, true_and, and_assoc]

theorem card_inFrame (v : Nat) (low : 1 ≤ v) : ((square (4 * v + 17)).filter fun c => InFrame v c).card = 225 + 8 * v := by
  rw [card_filter_or (by intro c; omega), card_filter_or (by intro c; omega), card_filter_or (by intro c; omega),
    card_filter_or (by intro c; omega), card_box (by omega) (by omega), card_box (by omega) (by omega),
    card_box (by omega) (by omega), card_box (by omega) (by omega), card_box (by omega) (by omega)]
  omega

theorem card_inBlocks (v : Nat) (low : 1 ≤ v) : ((square (4 * v + 17)).filter fun c => InBlocks v c).card = 36 := by
  rw [card_filter_or (by intro c; omega), card_box (by omega) (by omega), card_box (by omega) (by omega)]
  omega

section
variable {v : Nat} (low : 1 ≤ v) (high : v ≤ 40)
include low high

/-- A placed alignment pattern lies off the corners and the version information. -/
theorem offTiming_far {c : Nat × Nat} (off : OffTiming v c) : ¬ (InFrame v c ∨ 7 ≤ v ∧ InBlocks v c) := by
  obtain ⟨otherX, otherY, d, hd, kept, near⟩ := off
  obtain ⟨d1, d2⟩ := mem_alignmentCentres.mp hd
  have placeX := (centreSpec low high).place _ d1
  have placeY := (centreSpec low high).place _ d2
  rintro ((box | box | box | box | box) | ⟨new, box | box⟩) <;> omega

theorem free_iff (e : Ecc) (p : Nat) {c : Nat × Nat} (hc : c ∈ square (4 * v + 17)) :
    (functionGrid v e p).free c = true ↔ ¬ (OffTiming v c ∨ InFrame v c ∨ 7 ≤ v ∧ InBlocks v c) := by
  obtain ⟨x, y⟩ := c
  obtain ⟨hx, hy⟩ := mem_square.mp hc
  rw [functionGrid_free low high hx hy, not_iff_not]
  rw [inFrame_iff hx hy, inBlocks_iff, OffTiming]
  generalize InCorner v x y = corner
  generalize InVersion v x y = version
  generalize InAlignment v x y = alignment
  tauto

/-- 44_matrix.md R250. -/
theorem card_free (e : Ecc) (p : Nat) :
    ((square (4 * v + 17)).filter fun c => (functionGrid v e p).free c = true).card = dataCells v := by
  have frame := card_inFrame v low
  have blocks : ((square (4 * v + 17)).filter fun c => 7 ≤ v ∧ InBlocks v c).card = if 7 ≤ v then 36 else 0 := by
    split
    case isTrue new => simp only [new, true_and, card_inBlocks v low]
    case isFalse old => simp only [old, false_and, Finset.filter_false, Finset.card_empty]
  have pattern : ((square (4 * v + 17)).filter fun c => OffTiming v c).card =
      if 2 ≤ v then (5 * (v / 7 + 2) - 1) * (5 * (v / 7 + 2) - 1) - 56 else 0 := by
    split
    case isTrue more => rw [← card_offTiming more high, Nat.add_sub_cancel]
    case isFalse => rw [show v = 1 by omega, card_offTiming_one]
  have used : ((square (4 * v + 17)).filter fun c => OffTiming v c ∨ InFrame v c ∨ 7 ≤ v ∧ InBlocks v c).card = _ :=
    (card_filter_or fun c => offTiming_far low high).trans
      (congrArg₂ _ pattern ((card_filter_or (by intro c; omega)).trans (congrArg₂ _ frame blocks)))
  have all := Finset.card_filter_add_card_filter_not (s := square (4 * v + 17)) fun c =>
    OffTiming v c ∨ InFrame v c ∨ 7 ≤ v ∧ InBlocks v c
  rw [used, ← Finset.filter_congr fun c hc => free_iff low high e p hc] at all
  have cells : (square (4 * v + 17)).card = (4 * v + 17) * (4 * v + 17) := by
    rw [square, Finset.product_eq_sprod, Finset.card_product, Finset.card_range]
  have rows : ∀ w < 40, dataCells (w + 1) =
      (4 * (w + 1) + 17) * (4 * (w + 1) + 17) -
        ((if 2 ≤ w + 1 then (5 * ((w + 1) / 7 + 2) - 1) * (5 * ((w + 1) / 7 + 2) - 1) - 56 else 0) +
          (225 + 8 * (w + 1) + if 7 ≤ w + 1 then 36 else 0)) := by decide
  obtain ⟨w, rfl⟩ : ∃ w, v = w + 1 := ⟨v - 1, by omega⟩
  rw [rows w (by omega), ← cells, ← all, Nat.add_sub_cancel_left]

end

/-! ## Built matrices -/

theorem functionGrid_inside {v x y : Nat} (hx : x < 4 * v + 17) (hy : y < 4 * v + 17) (e : Ecc) (p : Nat) :
    (functionGrid v e p).Inside x y :=
  inside_of_rowLengths (g := clearGrid (moduleCount v)) (by rw [functionGrid_rowLengths]; simp [clearGrid])
    (clearGrid_inside hx hy)

section
variable {v : Nat} (low : 1 ≤ v) (high : v ≤ 40)
include low high

/-- The `k`-th free cell of the traversal (44_matrix.md R246). -/
theorem at_build_free (pol : Policy) (e : Ecc) (p : Nat) (cws : List Byte) {k : Nat} {c : Nat × Nat}
    (place : ((zigzag (4 * v + 17)).filter (functionGrid v e p).free)[k]? = some c) :
    (build pol v e p cws).at c.1 c.2 = dataCell pol p c (bitStream cws)[k]? := by
  have odd : 4 * v + 17 = 2 * (2 * v + 8) + 1 := by omega
  rw [build, show moduleCount v = 4 * v + 17 from rfl]
  refine at_mapData (zigzag_nodup odd (by omega)) (fun c hc => ?_) place
  obtain ⟨hx, hy, -⟩ := (mem_zigzag odd (by omega)).mp hc
  exact functionGrid_inside hx hy e p

/-- A cell is one of the function patterns' or a data cell. -/
theorem at_build_cases (pol : Policy) (e : Ecc) (p : Nat) (cws : List Byte) {x y : Nat} (hx : x < 4 * v + 17)
    (hy : y < 4 * v + 17) :
    (∃ a ∈ allPuts v e p, (build pol v e p cws).at x y = a.cell) ∨ ((build pol v e p cws).at x y).type = .data := by
  cases found : cellIn (allPuts v e p) x y with
  | some c =>
    obtain ⟨a, mem, rfl⟩ := exists_put_of_cellIn found
    exact .inl ⟨a, mem, at_build low high pol cws hx hy found⟩
  | none =>
    have free : (functionGrid v e p).free (x, y) = true := by
      rw [Grid.free, decide_eq_true_eq, at_functionGrid low high hx hy, found]; rfl
    have other := (functionGrid_free low high hx hy e p).mp free
    have odd : 4 * v + 17 = 2 * (2 * v + 8) + 1 := by omega
    have onPath : (x, y) ∈ zigzag (4 * v + 17) :=
      (mem_zigzag odd (by omega)).mpr ⟨hx, hy, fun six => other (.inr (.inl six))⟩
    have visited : (x, y) ∈ (zigzag (4 * v + 17)).filter (functionGrid v e p).free := List.mem_filter.mpr ⟨onPath, free⟩
    obtain ⟨k, place⟩ := List.getElem?_of_mem visited
    have data : (build pol v e p cws).at x y = dataCell pol p (x, y) (bitStream cws)[k]? :=
      at_build_free (c := (x, y)) low high pol e p cws place
    exact .inr (by rw [data]; rfl)

end

/-- Settles O26: a cell is one of the function patterns' or a data cell (`at_build_cases`). -/
theorem builtMatrixIsFinished : Obligations.BuiltMatrixIsFinished := by
  intro pol v e p cws low high
  have lengths := build_rowLengths pol v e p cws
  refine ⟨by simpa [moduleCount] using congrArg List.length lengths, fun row hrow => ?_⟩
  have rowLength : row.length = 4 * v + 17 :=
    List.eq_of_mem_replicate (lengths ▸ List.mem_map_of_mem hrow)
  refine ⟨rowLength, fun c hc => ?_⟩
  obtain ⟨y, hy, rfl⟩ := List.getElem_of_mem hrow
  obtain ⟨x, hx, rfl⟩ := List.getElem_of_mem hc
  have cell : (build pol v e p cws).at x y = (build pol v e p cws)[y][x] := by
    rw [Grid.at, List.getD_eq_getElem _ _ hy, List.getD_eq_getElem _ _ hx]
  rw [← cell]
  have bound : y < 4 * v + 17 := by
    have := congrArg List.length lengths
    simp only [List.length_map, List.length_replicate, moduleCount] at this
    omega
  rcases at_build_cases low high pol e p cws (rowLength ▸ hx) bound with ⟨a, mem, put⟩ | data
  · rw [put]; exact allPuts_typed v e p a mem
  · rw [data]; decide

/-- Settles O33: the mapping's law, the count by parts, and the traversal as a list of column pairs. -/
theorem dataCellsHoldTheMaskedBits : Obligations.DataCellsHoldTheMaskedBits := by
  intro v e p low high N free
  have odd : N = 2 * (2 * v + 8) + 1 := by omega
  have big : 3 ≤ 2 * v + 8 := by omega
  refine ⟨fun cws k x y place => ?_, ?_, zigzag_length odd big, fun j r b hj hr hb => ?_⟩
  · rw [at_build_free low high Config.policy e p cws place, bitStream_getElem?]
    split <;> rfl
  · rw [blockTable_cells low high]
    exact card_free low high e p
  · exact zigzag_getElem? odd big (by omega) hr hb

/-! ## The types of the cells (44_matrix.md R249) -/

/-- The types of a grid, cell by cell. -/
def Grid.types (g : Grid) : List (List ModuleType) := g.map (List.map Cell.type)

theorem type_at (g : Grid) (x y : Nat) : (g.at x y).type = (g.types.getD y []).getD x .empty := by
  rw [Grid.at, Grid.types, show ([] : List ModuleType) = ([] : List Cell).map Cell.type from rfl, List.getD_map,
    show ModuleType.empty = emptyCell.type from rfl, List.getD_map]

theorem type_congr {g g' : Grid} (same : g.types = g'.types) (x y : Nat) : (g.at x y).type = (g'.at x y).type := by
  rw [type_at, type_at, same]

theorem types_store (g : Grid) (x y : Nat) (c : Cell) :
    (g.store x y c).types = g.types.modify y fun row => row.set x c.type := by
  apply List.ext_getElem?
  intro k
  simp only [Grid.types, Grid.store, List.getElem?_map, List.getElem?_modify]
  cases g[k]? with
  | none => rfl
  | some row => by_cases here : y = k <;> simp [here, List.map_set]

theorem types_store_congr {g g' : Grid} (same : g.types = g'.types) (x y : Nat) {c c' : Cell} (type : c.type = c'.type) :
    (g.store x y c).types = (g'.store x y c').types := by
  rw [types_store, types_store, same, type]

/-- Where a put is and what type it writes. -/
def Put.spot (p : Put) : Nat × Nat × ModuleType := (p.x, p.y, p.type)

theorem types_put_congr {g g' : Grid} (same : g.types = g'.types) {p p' : Put} (spot : p.spot = p'.spot) :
    (g.put p).types = (g'.put p').types := by
  simp only [Put.spot, Prod.mk.injEq] at spot
  obtain ⟨hx, hy, type⟩ := spot
  rw [Grid.put, Grid.put, ← hx, ← hy, ← type, ← type_congr same]
  split
  · exact types_store_congr same _ _ rfl
  · exact same

theorem types_putAll_congr {g g' : Grid} (same : g.types = g'.types) {ps ps' : List Put}
    (spots : ps.map Put.spot = ps'.map Put.spot) : (g.putAll ps).types = (g'.putAll ps').types := by
  induction ps generalizing g g' ps' with
  | nil =>
    rw [List.map_nil, eq_comm, List.map_eq_nil_iff] at spots
    rw [spots]
    exact same
  | cons p ps ih =>
    obtain ⟨p', rest, rfl, spot, others⟩ := List.map_eq_cons_iff.mp spots.symm
    exact ih (types_put_congr same spot.symm) others.symm

theorem types_functionGrid (v : Nat) (e e' : Ecc) (p p' : Nat) :
    (functionGrid v e p).types = (functionGrid v e' p').types := by
  rw [functionGrid, functionGrid]
  refine types_putAll_congr rfl ?_
  simp only [formatPuts, List.map_flatMap, List.map_cons, List.map_nil, Put.spot]

theorem types_mapData_congr {g g' : Grid} (same : g.types = g'.types) (pol pol' : Policy) (p p' : Nat)
    (cs : List (Nat × Nat)) (bits bits' : List Bool) :
    (mapData pol p cs bits g).types = (mapData pol' p' cs bits' g').types := by
  induction cs generalizing g g' bits bits' with
  | nil => exact same
  | cons c cs ih =>
    have free : g.free c = g'.free c := by rw [Grid.free, Grid.free, type_congr same]
    rw [mapData_cons, mapData_cons, ← free]
    split
    · have type : (dataCell pol p c bits.head?).type = (dataCell pol' p' c bits'.head?).type := rfl
      exact ih (types_store_congr same _ _ type) _ _
    · exact ih same _ _

/-- Settles O27: each step of the build writes types by place and version alone. -/
theorem cellTypesDependOnTheVersionAlone : Obligations.CellTypesDependOnTheVersionAlone := fun pol pol' v e e' p p' _ _ x y =>
  type_congr (types_mapData_congr (types_functionGrid v e e' p p') pol pol' p p' _ _ _) x y

/-! ## The matrix memory -/

/-- The mask that `MTX_FINAL` takes is one of the eight (45_mask.md R286, R289). -/
theorem final_mtx (s : State) (P : BlockParams) : ∃ mask < 8, (s.final P).mtx = s.builtMtx P mask := by
  have first := (select_firstMin
    (fun p => (candidateScore Config.policy s.version s.level (s.prefixOf .cw P.tcw) p).scaled (moduleCount s.version)) 7).1
  rw [State.final]
  split
  · simp only [State.finalAuto, State.finalWith, writePen_mtx, writeCands_mtx, writeBlk_mtx, writeSelMask_mtx, writeMtx_mtx,
      candidateScores, List.map_map]
    exact ⟨_, first, rfl⟩
  · exact ⟨_, s.cfgMask.pat.isLt, rfl⟩

theorem builtMtx_ok {s : State} (legal : LegalVersion s) (P : BlockParams) {mask : Nat} (hmask : mask < 8) :
    (s.builtMtx P mask).Ok := by
  obtain ⟨low, high⟩ := legal
  have small {n : Nat} (h : n < 256) : (wordOf n).toNat = n := by
    rw [wordOf, BitVec.toNat_ofNat]; omega
  have version : (s.builtMtx P mask).version.toNat = s.cfgVersion.toNat := small (by unfold State.version; omega)
  have side : (s.builtMtx P mask).n.toNat = 4 * s.cfgVersion.toNat + 17 := small (by unfold moduleCount State.version; omega)
  have level : (s.builtMtx P mask).ecc.toNat = s.cfgEcc.toNat := BitVec.toNat_setWidth_of_le (by decide)
  have pattern : (s.builtMtx P mask).mask.toNat = mask := small (by omega)
  have finished : (s.builtMtx P mask).cells.Finished (4 * s.cfgVersion.toNat + 17) :=
    builtMatrixIsFinished Config.policy _ s.level mask (s.prefixOf .cw P.tcw) low high
  rw [Mtx.Ok, if_pos (show (s.builtMtx P mask).valid = true from rfl), version, side, level, pattern]
  exact ⟨low, high, rfl, s.cfgEcc.isLt, hmask, finished⟩

/-- The three commands that write the matrix leave a finished one. -/
theorem Effect.mtx_ok {i : Instr} {s u : State} (wf : i.WellFormed) (effect : Effect s u i) (h : s.mtx.Ok) : u.mtx.Ok := by
  by_cases same : u.mtx = s.mtx
  · rw [same]; exact h
  obtain ⟨-, -, -, -, -, -, written, -⟩ := effect.writesOnlyTargets
  rcases written same with ⟨mask, rfl⟩ | rfl | rfl
  · obtain ⟨legal, rfl⟩ := effect
    rw [matrixOf_eq]
    exact builtMtx_ok legal _ (of_decide_eq_true wf)
  · obtain ⟨legal, rfl⟩ := effect
    obtain ⟨mask, hmask, built⟩ := final_mtx s (configTable s)
    rw [built]
    exact builtMtx_ok legal _ hmask
  · obtain ⟨legal, -, rfl⟩ := effect
    have still : LegalVersion ((s.writeCwRun (s.interleavedData (configTable s))).writeBlk (configTable s).regs) := legal
    obtain ⟨mask, hmask, built⟩ :=
      final_mtx ((s.writeCwRun (s.interleavedData (configTable s))).writeBlk (configTable s).regs) (configTable s)
    rw [built]
    exact builtMtx_ok still _ hmask

theorem reset_mtx_ok : State.reset.mtx.Ok := by
  obtain ⟨-, -, -, mtx⟩ := resetMeetsTheInvariant
  exact mtx

/-- Settles O59: resets clear the matrix, effects are `Effect.mtx_ok`, and nothing else writes it. -/
theorem stepKeepsMatrixFinished : Obligations.StepKeepsMatrixFinished := by
  intro s t
  refine keeps_of_moves (p := fun s => s.mtx.Ok) (fun _ _ h => h) (keeps_busRead (fun _ _ h => h) fun _ h => h)
    (keeps_busWrite (fun _ h => h) (fun s _ => ?_) (fun _ _ h => h) (fun _ v h => ?_) (fun _ _ h _ _ => h) (fun _ h => h)
      (fun _ _ _ _ _ _ _ _ h => h) (fun _ _ _ _ h => h) (fun _ _ _ _ h => h)) (fun _ _ => reset_mtx_ok)
    (fun s i u h _ wf effect => Effect.mtx_ok (u := u) wf effect h) (fun _ _ h _ => h)
  · rw [softReset_eq]; exact reset_mtx_ok
  · rw [writeStatus_eq]; exact h

end Sys2Proof.Machine

end
